-- ==== Sys2Proof/Word.lean ====
section
/-! DEFINITION. The word types of the FLC (00_scope.md rules R7, R8): bytes, the 16-bit RESULT, 32-bit counters and
register data, the 4-bit sequence number, the 20-bit command word and the 10-bit register index. Unsigned reading is
`BitVec.toNat`; `trunc_N` is `BitVec.ofNat N`; `zext_N` is `BitVec.setWidth N`; `{a, b}` is `a ++ b`. -/

namespace Sys2Proof

/-- A byte, 0..255 (R8). -/
abbrev Byte := BitVec 8

/-- The width of RESULT (R7). -/
abbrev Word16 := BitVec 16

/-- The width of the counters, of DEADLINE and ELAPSED and of the register port's data (R7). -/
abbrev Word32 := BitVec 32

/-- The transmit sequence number, 0..15 (R25). -/
abbrev SeqNum := BitVec 4

/-- The command word (R100). -/
abbrev CmdWord := BitVec 20

/-- The register port's address (R260). -/
abbrev RegIndex := BitVec 10

end Sys2Proof
end

