-- ==== Sys2Proof/Syntax.lean ====
section
/-! DEFINITION. The operations of spec/opcode_table.json, one constructor per row. -/

namespace Sys2Proof

/-- One operation of the FLC.
The eight commands carry every field of the command word (R100) but OP, those they ignore (R105, R107) too, so that a
command word and its constructor hold the same bits: `dbg` is bit 3, `len` bits [11:4], `maxsz` bits [19:12].
The two register operations carry the register port's fields (R262, R264).
The five codec functions (R130) are not commands: no port issues them; they carry their operands, and a list's length is
the spec's count (`n` for a payload `p[0..n-1]`, `cnt` for a candidate `f[0..cnt-1]`). -/
inductive Instr where
  /-- CONNECT, OP 0 (R175). -/
  | connect (dbg : Bool) (len maxsz : Byte)
  /-- DISCONNECT, OP 1 (R180). -/
  | disconnect (dbg : Bool) (len maxsz : Byte)
  /-- SEND, OP 2 (R185). -/
  | send (dbg : Bool) (len maxsz : Byte)
  /-- RECEIVE, OP 3 (R210). -/
  | receive (dbg : Bool) (len maxsz : Byte)
  /-- ACK, OP 4 (R192). -/
  | ack (dbg : Bool) (len maxsz : Byte)
  /-- Reserved, OP 5 (R194). -/
  | reserved5 (dbg : Bool) (len maxsz : Byte)
  /-- Reserved, OP 6 (R194). -/
  | reserved6 (dbg : Bool) (len maxsz : Byte)
  /-- Reserved, OP 7 (R194). -/
  | reserved7 (dbg : Bool) (len maxsz : Byte)
  /-- REG_READ of index `addr` (R262). -/
  | regRead (addr : RegIndex)
  /-- REG_WRITE of `data` at index `addr` (R264). -/
  | regWrite (addr : RegIndex) (data : Word32)
  /-- CHECKSUM(p, n) (R131). -/
  | checksum (p : List Byte)
  /-- CK_OK(p, n, c) (R132). -/
  | ckOk (p : List Byte) (c : Byte)
  /-- BUILD(p, n, seq) (R134). -/
  | build (p : List Byte) (seq : SeqNum)
  /-- VALIDATE(f, cnt) (R136). -/
  | validate (f : List Byte)
  /-- EXTRACT(f, cnt, maxsz) (R139). -/
  | extract (f : List Byte) (maxsz : Byte)
  deriving DecidableEq, Repr

end Sys2Proof
end

