-- ==== Sys2Proof/Decode.lean ====
section
/-! DEFINITION. From the ports' bits to an operation and back (30_encoding.md rules R100 to R107, R112). The command
decoder is total on 20-bit words (R106): a word is rejected only where it is no 20-bit word at all. -/

namespace Sys2Proof

/-- OP, `cmd_word[2:0]` (R101). -/
def cmdOp (w : CmdWord) : BitVec 3 := w.extractLsb' 0 3

/-- DBG, `cmd_word[3]` (R102). -/
def cmdDbg (w : CmdWord) : Bool := w.getLsbD 3

/-- LEN, `cmd_word[11:4]` (R103). -/
def cmdLen (w : CmdWord) : Byte := w.extractLsb' 4 8

/-- MAX, `cmd_word[19:12]` (R104). -/
def cmdMax (w : CmdWord) : Byte := w.extractLsb' 12 8

/-- The command a word selects: the opcode map R105. -/
def decodeCmd (w : CmdWord) : Instr :=
  if cmdOp w = 0 then .connect (cmdDbg w) (cmdLen w) (cmdMax w)
  else if cmdOp w = 1 then .disconnect (cmdDbg w) (cmdLen w) (cmdMax w)
  else if cmdOp w = 2 then .send (cmdDbg w) (cmdLen w) (cmdMax w)
  else if cmdOp w = 3 then .receive (cmdDbg w) (cmdLen w) (cmdMax w)
  else if cmdOp w = 4 then .ack (cmdDbg w) (cmdLen w) (cmdMax w)
  else if cmdOp w = 5 then .reserved5 (cmdDbg w) (cmdLen w) (cmdMax w)
  else if cmdOp w = 6 then .reserved6 (cmdDbg w) (cmdLen w) (cmdMax w)
  else .reserved7 (cmdDbg w) (cmdLen w) (cmdMax w)

/-- The register port's operation (R112): `reg_wr` selects the row. -/
def decodeReg (regWr : Bool) (regAddr : RegIndex) (regWdata : Word32) : Instr :=
  if regWr then .regWrite regAddr regWdata else .regRead regAddr

/-- The command word with the given fields, `{MAX, LEN, DBG, OP}` (R100). -/
def packCmd (op : BitVec 3) (dbg : Bool) (len maxsz : Byte) : CmdWord :=
  maxsz ++ len ++ BitVec.ofBool dbg ++ op

/-- The command word of a command; the register operations travel on the register port and the codec functions on no
port, so they have none (R105, R112, R130). -/
def encodeCmd : Instr → Option CmdWord
  | .connect dbg len maxsz => some (packCmd 0 dbg len maxsz)
  | .disconnect dbg len maxsz => some (packCmd 1 dbg len maxsz)
  | .send dbg len maxsz => some (packCmd 2 dbg len maxsz)
  | .receive dbg len maxsz => some (packCmd 3 dbg len maxsz)
  | .ack dbg len maxsz => some (packCmd 4 dbg len maxsz)
  | .reserved5 dbg len maxsz => some (packCmd 5 dbg len maxsz)
  | .reserved6 dbg len maxsz => some (packCmd 6 dbg len maxsz)
  | .reserved7 dbg len maxsz => some (packCmd 7 dbg len maxsz)
  | .regRead _ => none
  | .regWrite _ _ => none
  | .checksum _ => none
  | .ckOk _ _ => none
  | .build _ _ => none
  | .validate _ => none
  | .extract _ _ => none

/-- The register port's drive for an operation: `(reg_wr, reg_addr, reg_wdata)` (R112). A read drives no data; the model
writes 0 there, which `decodeReg` ignores. -/
def encodeReg : Instr → Option (Bool × RegIndex × Word32)
  | .connect _ _ _ => none
  | .disconnect _ _ _ => none
  | .send _ _ _ => none
  | .receive _ _ _ => none
  | .ack _ _ _ => none
  | .reserved5 _ _ _ => none
  | .reserved6 _ _ _ => none
  | .reserved7 _ _ _ => none
  | .regRead a => some (false, a, 0)
  | .regWrite a d => some (true, a, d)
  | .checksum _ => none
  | .ckOk _ _ => none
  | .build _ _ => none
  | .validate _ => none
  | .extract _ _ => none

/-- The operation whose bits are `w` as spec/opcode_table.json numbers them: a command is the 20-bit `cmd_word[19:0]`, so
a number with a bit above 19 is no command word (log 14). The rows of the register port and of the codec functions have
no word in the table. -/
def decodeTableWord (_nbits w : Nat) : Option Instr :=
  if w < 2 ^ 20 then some (decodeCmd (BitVec.ofNat 20 w)) else none

end Sys2Proof
end

