-- ==== Sys2Proof/Machine/Ports.lean ====
section
/-! DEFINITION. The FLC's ports (30_encoding.md rule R99): one sample of every input port, as the FLC takes it at a
rising edge of `clk`, and the values its output ports show. -/

namespace Sys2Proof.Machine

/-- One sample of the input ports of R99. `clk` is not a field: a step IS a rising edge (R9). -/
structure Ports where
  /-- `rst`: synchronous reset, active high (R310). -/
  rst : Bool
  /-- `tick`: 1 at an edge counts one tick (R212). -/
  tick : Bool
  /-- `cmd_valid`: a command is offered (R109). -/
  cmdValid : Bool
  /-- `cmd_word` (R100). -/
  cmdWord : CmdWord
  /-- `reg_addr` (R260). -/
  regAddr : RegIndex
  /-- `reg_wr`: 1 writes at the edge (R264). -/
  regWr : Bool
  /-- `reg_wdata` (R264). -/
  regWdata : Word32
  /-- `tx_ack`: the channel takes `tx_data` at this edge (R188). -/
  txAck : Bool
  /-- `tx_full`: the channel refuses (R188). -/
  txFull : Bool
  /-- `rx_valid`: the channel offers a byte (R214). -/
  rxValid : Bool
  /-- `rx_data`: the offered byte (R214). -/
  rxData : Byte
  /-- `rx_err`: the channel reports a receive transport error (R214). -/
  rxErr : Bool
  /-- `chan_done`: the channel answers the open or close request (R176, R181). -/
  chanDone : Bool
  /-- `chan_code`: 0 success, 1..255 a failure code (R176, R181). -/
  chanCode : Byte
  deriving DecidableEq, Repr, Inhabited

/-- Every input low: no reset, no tick, no command, a register read of index 0, a silent channel. -/
def Ports.quiet : Ports :=
  { rst := false, tick := false, cmdValid := false, cmdWord := 0, regAddr := 0, regWr := false, regWdata := 0,
    txAck := false, txFull := false, rxValid := false, rxData := 0, rxErr := false, chanDone := false, chanCode := 0 }

/-- The output ports of R99. -/
structure Outputs where
  cmdReady : Bool
  done : Bool
  regRdata : Word32
  txValid : Bool
  txData : Byte
  rxReady : Bool
  chanOpenReq : Bool
  chanCloseReq : Bool
  deriving DecidableEq, Repr

end Sys2Proof.Machine
end

