-- ==== Sys2Proof/Config.lean ====
section
/-! DEFINITION. What is fixed for one FLC and no edge changes (00_scope.md rule R6; 10_state.md rule R20): the named
parameters; and the free values, which the spec leaves open. Every parameter the spec calls OPEN and every free value is
an uninterpreted constant: no proof can see its value, so a claim holds for every admitted value (assumption log 1, 3, 5). -/

namespace Sys2Proof

/-- The parameters of R6. A function that needs one takes the record as an argument, so that a claim can be stated for
every value. -/
structure Params where
  startMarker : Byte
  endMarker : Byte
  sentinel : Vector Byte 10
  maxBlock : Nat
  deadlineReset : Word32
  deriving DecidableEq, Repr

/-- The constraints R6 puts on the parameters: `END_MARKER != START_MARKER`, and MAX_BLOCK in 0..250. -/
abbrev Params.Admitted (P : Params) : Prop := P.endMarker ≠ P.startMarker ∧ P.maxBlock ≤ 250

/-- `START_MARKER`, OPEN (D3). -/
opaque Config.startMarker : Byte

/-- How far `END_MARKER` lies above `START_MARKER`, less one: any of the 255 other bytes (D3). -/
opaque Config.markerGap : Fin 255

/-- `END_MARKER`, OPEN but for `END_MARKER != START_MARKER` (D3). DESIGN CHOICE (log 3): given as an offset so that the
one constraint holds and nothing else is known. -/
def Config.endMarker : Byte := Config.startMarker + BitVec.ofNat 8 (Config.markerGap.val + 1)

/-- `SENTINEL[0..9]`, OPEN (D4). -/
opaque Config.sentinelByte : Fin 10 → Byte

/-- `DEADLINE_RESET`, OPEN (D11). -/
opaque Config.deadlineReset : Word32

/-- The parameters of this FLC. `MAX_BLOCK` is settled, 250 (R6, D5; log 4). -/
def Config.params : Params :=
  { startMarker := Config.startMarker
    endMarker := Config.endMarker
    sentinel := Vector.ofFn Config.sentinelByte
    maxBlock := 250
    deadlineReset := Config.deadlineReset }

/-- FREE VALUE: what the input ports show at the n-th edge when `State.inputs` lists no sample for it (I5, I13; log 1). -/
opaque Config.freePorts : Nat → Machine.Ports

/-- FREE VALUE: byte `i` of TXBUF after the `epoch`-th reset and until it is written (R39, R310, I14; log 5, 6). -/
opaque Config.freeTxbuf (epoch i : Nat) : Byte

/-- FREE VALUE: byte `i` of RXBUF after the `epoch`-th reset and until it is written (R40, R310, I14; log 5, 6). -/
opaque Config.freeRxbuf (epoch i : Nat) : Byte

/-- FREE VALUE: byte `i` of TXFRAME after the `epoch`-th reset and until it is written (R41, R310, I14; log 5, 6). -/
opaque Config.freeTxframe (epoch i : Nat) : Byte

/-- FREE VALUE: byte `i` of FRAMEBUF after the `epoch`-th reset and until it is written (R42, R310, I14; log 5, 6). -/
opaque Config.freeFramebuf (epoch i : Nat) : Byte

end Sys2Proof
end

