-- ==== Sys2Proof/Machine/State.lean ====
section
/-! DEFINITION. The FLC's state (10_state.md rule R20), the wires of 20_memory.md rule R60, the few fields the model adds
(assumption log 1, 6, 7, 8, 9), the state after reset (70_reset_and_hazards.md rule R310), and how an operation can stop. -/

namespace Sys2Proof.Machine

/-- The FSM state STATE, in the order of its codes 0..7 (R23). -/
inductive Fsm where
  | idle | openWait | closeWait | tx | hunt | len | body | check
  deriving DecidableEq, Repr

/-- The result kind RKIND, in the order of its codes 0..7 (R35). -/
inductive RKind where
  | ok | data | badFrame | timeout | notConnected | size | transport | illegal
  deriving DecidableEq, Repr

/-- The reason FAIL_REASON, in the order of its codes 0..4; codes 5..7 are never written (R37; log 15). -/
inductive Reason where
  | none | start | endMarker | length | checksum
  deriving DecidableEq, Repr

/-- What the codec's combinational outputs show after a codec function is run by itself (R130; log 9). -/
inductive CodecOut where
  /-- No codec function has been run by itself. -/
  | none
  /-- CHECKSUM's byte (R131). -/
  | checksum (c : Byte)
  /-- CK_OK's bit (R132). -/
  | ckOk (ok : Bool)
  /-- BUILD's pair `(f[0..L-1], L)` (R134). -/
  | frame (f : List Byte) (L : Nat)
  /-- VALIDATE's pair `(ok, reason)` (R136). -/
  | verdict (ok : Bool) (reason : Reason)
  /-- EXTRACT's triple `(payload, m, seq)` (R139). -/
  | extracted (payload : List Byte) (m : Nat) (seq : Byte)
  deriving DecidableEq, Repr

/-- A byte buffer: the bytes written since the last reset edge, as (index, byte) pairs. An index it does not list has no
value of its own: no cell can equal what an unlisted index reads as, so the canonical form is that the indices strictly
rise (log 5). -/
abbrev Memory := List Host.Cell

/-- The machine's state. -/
structure State where
  /-- STATE (R23). -/
  state : Fsm
  /-- CONNECTED (R24). -/
  connected : Bool
  /-- SEQ (R25). -/
  seq : SeqNum
  /-- CNT_SENT (R26). -/
  cntSent : Word32
  /-- CNT_GOOD (R27). -/
  cntGood : Word32
  /-- CNT_BAD (R28). -/
  cntBad : Word32
  /-- CNT_TIMEOUT (R29). -/
  cntTimeout : Word32
  /-- DEADLINE (R31). -/
  deadline : Word32
  /-- DL (R32). -/
  dl : Word32
  /-- ELAPSED (R33). -/
  elapsed : Word32
  /-- RESULT (R34). -/
  result : Word16
  /-- RKIND (R35). -/
  rkind : RKind
  /-- RX_SEQ (R36). -/
  rxSeq : Byte
  /-- FAIL_REASON (R37). -/
  failReason : Reason
  /-- DONE (R38). -/
  done : Bool
  /-- TXBUF[0..249] (R39). -/
  txbuf : Memory
  /-- RXBUF[0..249] (R40). -/
  rxbuf : Memory
  /-- TXFRAME[0..254] (R41). -/
  txframe : Memory
  /-- TXLEN (R41). -/
  txlen : Byte
  /-- TXIDX (R41). -/
  txidx : Byte
  /-- FRAMEBUF[0..254] (R42). -/
  framebuf : Memory
  /-- RXCOUNT (R42). -/
  rxcount : Byte
  /-- RXLEN (R42). -/
  rxlen : Byte
  /-- MAXSZ (R42). -/
  maxsz : Byte
  /-- The transmit wire (R60, R74): the bytes the channel has taken, oldest first (log 7). -/
  txWire : List Byte
  /-- The receive wire (R60, R74): the bytes the FLC has consumed, oldest first (log 7). -/
  rxWire : List Byte
  /-- MODEL'S OWN: the input ports' samples at the coming edges, next first; past its end the sample at an edge is the
  free value `Config.freePorts` (log 1). -/
  inputs : List Ports
  /-- MODEL'S OWN: how many clock edges have passed, the index of the free port sample (log 1). -/
  edge : Nat
  /-- MODEL'S OWN: how many reset edges have passed, the index of the buffers' free contents (log 6). -/
  epoch : Nat
  /-- MODEL'S OWN: what `reg_rdata` showed at the last edge (R262; log 8). -/
  rdata : Word32
  /-- MODEL'S OWN: what the codec's outputs show (log 9). -/
  codecOut : CodecOut
  deriving DecidableEq, Repr

/-- Why a machine could stop with an error: never. "No treatment in this spec is `fault`: the FLC has no condition in
which it stops with an error" (93_implementation_defined.md; R280). No constructor, so no operation raises one: safe. -/
inductive Fault where
  deriving DecidableEq, Repr

/-- Why an operation has no meaning. -/
inductive Refusal where
  /-- Raised by `exec` alone, for an operation the model gives no meaning; no arm does. Safe. -/
  | notModelled (mnemonic : String)
  /-- Raised by the five codec meanings for an operand outside the range R131, R132, R134, R135 or R139 gives: such an
  operand never reaches the codec (R134, R135, R141). Safe: the model stops where the spec states nothing (log 10). -/
  | codecOperandOutOfRange
  /-- Raised by EXTRACT's meaning for a candidate that fails VALIDATE: "EXTRACT is never applied to a candidate that
  failed VALIDATE" (R141). Safe: the model stops where the spec states nothing (log 10). -/
  | extractOfUnvalidatedFrame
  deriving DecidableEq, Repr

/-- The state after reset (R310). The buffers list nothing: their bytes are unspecified, free values (log 5). The wires
and the model's own fields start empty (log 7, log 17). -/
def State.reset : State :=
  { state := .idle, connected := false, seq := 0
    cntSent := 0, cntGood := 0, cntBad := 0, cntTimeout := 0
    deadline := Config.params.deadlineReset, dl := 0, elapsed := 0
    result := 0, rkind := .ok, rxSeq := 0, failReason := .none, done := false
    txbuf := [], rxbuf := [], txframe := [], txlen := 0, txidx := 0
    framebuf := [], rxcount := 0, rxlen := 0, maxsz := 0
    txWire := [], rxWire := []
    inputs := [], edge := 0, epoch := 0, rdata := 0, codecOut := .none }

end Sys2Proof.Machine
end

