-- ==== Sys2Proof/Machine/Ops.lean ====
section
/-! DEFINITION. The shared operations over the buffers and the registers: reading and writing a buffer byte, and the ways
an edge ends (41_session.md rules R170, R171). The FLC takes no exception and returns from none (R280, R286, R287): an
error ends its command through `State.complete`, the one operation every error goes through. -/

namespace Sys2Proof.Machine

/-- The byte listed at index `a`, if one is. -/
def Memory.read? : Memory → Nat → Option Byte
  | [], _ => none
  | (b, v) :: m, a => if b = a then some v else Memory.read? m a

/-- List `v` at index `a`, in its place among the rising indices, over any byte listed there. -/
def Memory.insert : Memory → Nat → Byte → Memory
  | [], a, v => [(a, v)]
  | (b, w) :: m, a, v =>
    if a < b then (a, v) :: (b, w) :: m
    else if a = b then (a, v) :: m
    else (b, w) :: Memory.insert m a v

/-- `MemWrite(buf, a, 1, v)` (R10) on a buffer of `size` bytes. R61: an index is always in range; where it is not (in no
state a run reaches) there is no such byte and nothing is written (log 11). -/
def Memory.write (size : Nat) (m : Memory) (a : Nat) (v : Byte) : Memory :=
  if a < size then Memory.insert m a v else m

/-- `buf[a + i] <- vs[i]` for every i. -/
def Memory.writeFrom (size : Nat) (m : Memory) (a : Nat) : List Byte → Memory
  | [] => m
  | v :: vs => Memory.writeFrom size (Memory.write size m a v) (a + 1) vs

/-- The canonical form of a buffer of `size` bytes: the listed indices strictly rise and each is one of the buffer's. -/
abbrev Memory.wf (size : Nat) (m : Memory) : Prop :=
  m.Pairwise (fun c d => c.1 < d.1) ∧ ∀ c ∈ m, c.1 < size

/-- TXBUF[0..249] (R39). -/
def txbufSize : Nat := 250
/-- RXBUF[0..249] (R40). -/
def rxbufSize : Nat := 250
/-- TXFRAME[0..254] (R41). -/
def txframeSize : Nat := 255
/-- FRAMEBUF[0..254] (R42). -/
def framebufSize : Nat := 255

/-- TXBUF[i]: the byte written there, or the free value it has held since reset (R39, I14). -/
def State.txbufByte (s : State) (i : Nat) : Byte := (Memory.read? s.txbuf i).getD (Config.freeTxbuf s.epoch i)

/-- RXBUF[i]: the byte written there, or the free value it has held since reset (R40, I14). -/
def State.rxbufByte (s : State) (i : Nat) : Byte := (Memory.read? s.rxbuf i).getD (Config.freeRxbuf s.epoch i)

/-- TXFRAME[i]: the byte written there, or the free value it has held since reset (R41, I14). -/
def State.txframeByte (s : State) (i : Nat) : Byte := (Memory.read? s.txframe i).getD (Config.freeTxframe s.epoch i)

/-- FRAMEBUF[i]: the byte written there, or the free value it has held since reset (R42, I14). -/
def State.framebufByte (s : State) (i : Nat) : Byte := (Memory.read? s.framebuf i).getD (Config.freeFramebuf s.epoch i)

/-- `complete(kind, value)` (R171), with `DONE <- 1` (R170). -/
def State.complete (s : State) (kind : RKind) (value : Word16) : State :=
  { s with rkind := kind, result := value, state := .idle, done := true }

/-- `complete(kind, -)` (R171): RESULT unchanged, with `DONE <- 1` (R170). -/
def State.completeKeep (s : State) (kind : RKind) : State :=
  { s with rkind := kind, state := .idle, done := true }

/-- `finish()` (R171): RESULT and RKIND unchanged, with `DONE <- 1` (R170). -/
def State.finish (s : State) : State :=
  { s with state := .idle, done := true }

/-- An edge that completes no command and leaves the FSM in state `f`: `DONE <- 0` (R170). -/
def State.goto (s : State) (f : Fsm) : State :=
  { s with state := f, done := false }

/-- An edge that completes no command and leaves STATE as it is: `DONE <- 0` (R170). -/
def State.stay (s : State) : State :=
  { s with done := false }

/-- A command offered at the command port (R109): accepted in IDLE, where its effect is `t`; in any other state nothing
is accepted and the command has no effect. -/
def State.offer (s : State) (t : State) : State :=
  if s.state = .idle then t else s

/-- Reset (R310): every element takes its reset value, and nothing else happens. The wires keep what they carried (R313),
the buffers' unspecified bytes are free anew (log 6), and the model's own fields are no elements of the FLC. -/
def State.resetElements (s : State) : State :=
  { State.reset with
    txWire := s.txWire, rxWire := s.rxWire
    inputs := s.inputs, edge := s.edge, epoch := s.epoch + 1, rdata := s.rdata, codecOut := s.codecOut }

end Sys2Proof.Machine
end

