-- ==== Sys2Proof/Machine/Operands.lean ====
section
/-! DEFINITION. The operands of the commands: the payload SEND reads (41_session.md rule R185), the candidate frame
RECEIVE validates (42_receive.md rule R219), and the fields of the command word as numbers (R103, R104). -/

namespace Sys2Proof.Machine

/-- `zext(b)`: a byte field as a number 0..255 (R103, R104). -/
def byteOperand (b : Byte) : Nat := b.toNat

/-- TXBUF[0..len-1] (R185). -/
def State.payload (s : State) (len : Nat) : List Byte := (List.range len).map s.txbufByte

/-- FRAMEBUF[0..RXCOUNT-1] (R219). -/
def State.candidate (s : State) : List Byte := (List.range s.rxcount.toNat).map s.framebufByte

/-- The byte the FLC offers in TX, TXFRAME[TXIDX] (R188). -/
def State.txByte (s : State) : Byte := s.txframeByte s.txidx.toNat

end Sys2Proof.Machine
end

