-- ==== Sys2Proof/Machine/Flags.lean ====
section
/-! DEFINITION. Codes, status bits, counters and outputs: the field encodings of 10_state.md rules R23, R35, R37, the
arithmetic of 40_codec.md rule R145, and the output ports of 30_encoding.md rules R110 and R111. -/

namespace Sys2Proof.Machine

/-- The 3-bit code of STATE (R23). -/
def Fsm.code : Fsm → BitVec 3
  | .idle => 0
  | .openWait => 1
  | .closeWait => 2
  | .tx => 3
  | .hunt => 4
  | .len => 5
  | .body => 6
  | .check => 7

/-- The 3-bit code of RKIND (R35). -/
def RKind.code : RKind → BitVec 3
  | .ok => 0
  | .data => 1
  | .badFrame => 2
  | .timeout => 3
  | .notConnected => 4
  | .size => 5
  | .transport => 6
  | .illegal => 7

/-- The 3-bit code of FAIL_REASON (R37). -/
def Reason.code : Reason → BitVec 3
  | .none => 0
  | .start => 1
  | .endMarker => 2
  | .length => 3
  | .checksum => 4

/-- The pattern of `-c` in RESULT: `trunc_16(2^16 - c)` (R8). -/
def negResult (c : Nat) : Word16 := BitVec.ofNat 16 (2 ^ 16 - c)

/-- A counter's increment, `trunc_32(c + 1)` (R30). -/
def bumpCounter (c : Word32) : Word32 := BitVec.ofNat 32 (c.toNat + 1)

/-- SEQ's advance, `(SEQ + 1) mod 16` (R190). -/
def nextSeq (q : SeqNum) : SeqNum := BitVec.ofNat 4 ((q.toNat + 1) % 16)

/-- `sat32(x)` (R8). -/
def sat32 (x : Nat) : Word32 := BitVec.ofNat 32 (min x (2 ^ 32 - 1))

/-- `sat32(ELAPSED + tick)` (R33, R212). -/
def countTick (elapsed : Word32) (tick : Bool) : Word32 := sat32 (elapsed.toNat + tick.toNat)

/-- The deadline has elapsed: `ELAPSED >= DL` before the edge (R33, R212). -/
def State.deadlinePassed (s : State) : Bool := decide (s.dl.toNat ≤ s.elapsed.toNat)

/-- BUSY (R43). -/
def State.busy (s : State) : Bool := decide (s.state ≠ .idle)

/-- STATE in HUNT, LEN, BODY (R111, R212). -/
def Fsm.receiving : Fsm → Bool
  | .idle => false
  | .openWait => false
  | .closeWait => false
  | .tx => false
  | .hunt => true
  | .len => true
  | .body => true
  | .check => false

/-- `cmd_ready` (R110). -/
def State.cmdReady (s : State) : Bool := decide (s.state = .idle)

/-- `tx_valid` (R111). -/
def State.txValid (s : State) : Bool := decide (s.state = .tx)

/-- `tx_data` (R111). -/
def State.txData (s : State) : Byte := if s.state = .tx then s.txByte else 0x00

/-- `rx_ready` (R111). -/
def State.rxReady (s : State) : Bool := s.state.receiving && !s.deadlinePassed

/-- `chan_open_req` (R111). -/
def State.chanOpenReq (s : State) : Bool := decide (s.state = .openWait)

/-- `chan_close_req` (R111). -/
def State.chanCloseReq (s : State) : Bool := decide (s.state = .closeWait)

end Sys2Proof.Machine
end

