-- ==== Sys2Proof/Machine/Codec.lean ====
section
/-! DEFINITION. The frame codec and the checksum validator (40_codec.md): pure functions of their operands and of the
parameters (R130), and the meaning of each run by itself. A list is the spec's byte array with its count: `p` is
`p[0..n-1]`, `f` is `f[0..cnt-1]`. -/

namespace Sys2Proof.Machine

/-- `SUM(p, 0, n-1)` over integers (R10). -/
def byteSum : List Byte → Nat
  | [] => 0
  | b :: p => b.toNat + byteSum p

/-- CHECKSUM(p, n) (R131). -/
def codecChecksum (p : List Byte) : Byte := BitVec.ofNat 8 ((256 - byteSum p % 256) % 256)

/-- CK_OK(p, n, c) (R132). -/
def codecCkOk (p : List Byte) (c : Byte) : Bool := decide ((byteSum p + c.toNat) % 256 = 0)

/-- BUILD's length `L = n + 5` (R134, R92). -/
def buildLength (p : List Byte) : Nat := p.length + 5

/-- BUILD(p, n, seq), the frame `f[0..L-1]` (R134, R91). -/
def codecBuild (P : Params) (p : List Byte) (seq : SeqNum) : List Byte :=
  [P.startMarker, BitVec.ofNat 8 (buildLength p), seq.setWidth 8] ++ p ++ [codecChecksum p, P.endMarker]

/-- The payload span `f[3..cnt-3]` of a candidate, `cnt - 5` bytes (R136, R139). -/
def payloadSpan (f : List Byte) : List Byte := (f.drop 3).take (f.length - 5)

/-- The reason VALIDATE(f, cnt) gives: its four checks in order, the first that fails (R136, R137, R138). An empty list
(no candidate: R135 has cnt >= 1) has no first byte and fails check (a) (log 12). -/
def validateReason (P : Params) (f : List Byte) : Reason :=
  if f.head? ≠ some P.startMarker then .start
  else if f.getLast? ≠ some P.endMarker then .endMarker
  else if (f.getD 1 0).toNat ≠ f.length ∨ f.length < 5 then .length
  else if codecCkOk (payloadSpan f) (f.getD (f.length - 2) 0) = false then .checksum
  else .none

/-- VALIDATE(f, cnt): the pair `(ok, reason)` (R136). -/
def codecValidate (P : Params) (f : List Byte) : Bool × Reason :=
  (decide (validateReason P f = .none), validateReason P f)

/-- EXTRACT's count `m = min(plen, maxsz)` (R139). -/
def extractCount (f : List Byte) (maxsz : Nat) : Nat := min (f.length - 5) maxsz

/-- EXTRACT's payload `f[3 .. 3 + m - 1]` (R139). -/
def extractPayload (f : List Byte) (maxsz : Nat) : List Byte := (f.drop 3).take (extractCount f maxsz)

/-- EXTRACT's sequence byte `f[2]`, the whole byte (R139, R140). -/
def extractSeq (f : List Byte) : Byte := f.getD 2 0

/-- EXTRACT(f, cnt, maxsz): the triple `(payload, m, seq)` (R139). -/
def codecExtract (f : List Byte) (maxsz : Nat) : List Byte × Nat × Byte :=
  (extractPayload f maxsz, extractCount f maxsz, extractSeq f)

/-- CHECKSUM by itself: its output shows the checksum byte; no state is written (R130, R131). -/
def execChecksum (p : List Byte) (s : State) : Host.Outcome State Fault Refusal :=
  if p.length ≤ 250 then .next { s with codecOut := .checksum (codecChecksum p) }
  else .refused .codecOperandOutOfRange

/-- CK_OK by itself: its output shows the bit; no state is written (R130, R132). -/
def execCkOk (p : List Byte) (c : Byte) (s : State) : Host.Outcome State Fault Refusal :=
  if p.length ≤ 250 then .next { s with codecOut := .ckOk (codecCkOk p c) }
  else .refused .codecOperandOutOfRange

/-- BUILD by itself: its output shows the frame and its length; no state is written (R130, R134). -/
def execBuild (p : List Byte) (seq : SeqNum) (s : State) : Host.Outcome State Fault Refusal :=
  if p.length ≤ Config.params.maxBlock then
    .next { s with codecOut := .frame (codecBuild Config.params p seq) (buildLength p) }
  else .refused .codecOperandOutOfRange

/-- VALIDATE by itself: its output shows the verdict; no state is written (R130, R135, R136). -/
def execValidate (f : List Byte) (s : State) : Host.Outcome State Fault Refusal :=
  if 1 ≤ f.length ∧ f.length ≤ 255 then
    .next { s with codecOut := .verdict (codecValidate Config.params f).1 (codecValidate Config.params f).2 }
  else .refused .codecOperandOutOfRange

/-- EXTRACT by itself: its output shows the payload, its count and the sequence byte; no state is written (R130, R139).
It is never applied to a candidate that failed VALIDATE (R141). -/
def execExtract (f : List Byte) (maxsz : Byte) (s : State) : Host.Outcome State Fault Refusal :=
  if 5 ≤ f.length ∧ f.length ≤ 255 then
    if (codecValidate Config.params f).1 then
      .next { s with codecOut := .extracted (extractPayload f (byteOperand maxsz)) (extractCount f (byteOperand maxsz)) (extractSeq f) }
    else .refused .extractOfUnvalidatedFrame
  else .refused .codecOperandOutOfRange

end Sys2Proof.Machine
end

