-- ==== Sys2Proof/Machine/Receive.lean ====
section
/-! DEFINITION. RECEIVE (42_receive.md): its accept edge, the deadline timer, the acquisition arms HUNT, LEN and BODY, and
the CHECK arm. -/

namespace Sys2Proof.Machine

/-- RECEIVE with CONNECTED = 1 starts (R211): the deadline is taken and the hunt begins. -/
def State.startHunt (maxsz : Byte) (s : State) : State :=
  { s.goto .hunt with dl := s.deadline, elapsed := 0, maxsz := maxsz, rxcount := 0 }

/-- RECEIVE, accept edge (R210, R211). -/
def receiveAccept (maxsz : Byte) (s : State) : State :=
  if s.connected = false then s.complete .notConnected (negResult 1) else s.startHunt maxsz

/-- RECEIVE (R210): MAX is read, DBG and LEN are ignored (R105). -/
def execReceive (_dbg : Bool) (_len maxsz : Byte) (s : State) : Host.Outcome State Fault Refusal :=
  .next (s.offer (receiveAccept maxsz s))

/-- Timeout arm (R213). -/
def State.timeOut (s : State) : State :=
  ({ s with cntTimeout := bumpCounter s.cntTimeout } : State).complete .timeout (negResult 4)

/-- ELAPSED's update at a wait-state edge whose deadline has not elapsed (R212). -/
def State.countElapsed (s : State) (tick : Bool) : State := { s with elapsed := countTick s.elapsed tick }

/-- `FRAMEBUF[i] <- b` (R215 to R217). -/
def State.storeCandidate (s : State) (i : Nat) (b : Byte) : State :=
  { s with framebuf := Memory.write framebufSize s.framebuf i b }

/-- HUNT arm, byte `b` consumed (R215). -/
def huntByte (P : Params) (b : Byte) (s : State) : State :=
  if b = P.startMarker then ({ s.storeCandidate 0 b with rxcount := 1 } : State).goto .len
  else s.stay

/-- LEN arm, byte `b` consumed (R216). -/
def lenByte (b : Byte) (s : State) : State :=
  ({ s.storeCandidate 1 b with rxlen := b, rxcount := 2 } : State).goto (if b.toNat ≤ 2 then .check else .body)

/-- BODY arm, byte `b` consumed (R217); the comparison is of RXCOUNT before the edge (log 16). -/
def bodyByte (b : Byte) (s : State) : State :=
  ({ s.storeCandidate s.rxcount.toNat b with rxcount := BitVec.ofNat 8 (s.rxcount.toNat + 1) } : State).goto
    (if s.rxcount.toNat + 1 = s.rxlen.toNat then .check else .body)

/-- The arm of the acquisition state for a consumed byte (R214). STATE is HUNT, LEN or BODY where this is called; in
any other state no byte is consumed (R226). -/
def consumeByte (P : Params) (b : Byte) (s : State) : State :=
  match s.state with
  | .hunt => huntByte P b s
  | .len => lenByte b s
  | .body => bodyByte b s
  | .idle => s.stay
  | .openWait => s.stay
  | .closeWait => s.stay
  | .tx => s.stay
  | .check => s.stay

/-- The byte offered at the receive port is consumed: it is the next byte of the receive wire (R60, R74, R214). -/
def State.takeByte (s : State) (b : Byte) : State := { s with rxWire := s.rxWire ++ [b] }

/-- The receive port at a wait-state edge whose deadline has not elapsed (R214): `rx_err`, then `rx_valid`. -/
def rxPortArm (P : Params) (p : Ports) (s : State) : State :=
  if p.rxErr then s.complete .transport (negResult 3)
  else if p.rxValid then consumeByte P p.rxData (s.takeByte p.rxData)
  else s.stay

/-- An edge in HUNT, LEN or BODY (R212 to R214): the deadline first. -/
def waitArm (P : Params) (p : Ports) (s : State) : State :=
  if s.deadlinePassed then s.timeOut else rxPortArm P p (s.countElapsed p.tick)

/-- Good frame (R220). -/
def State.goodFrame (s : State) : State :=
  ({ s with
    rxbuf := Memory.writeFrom rxbufSize s.rxbuf 0 (extractPayload s.candidate s.maxsz.toNat)
    rxSeq := extractSeq s.candidate
    failReason := .none
    cntGood := bumpCounter s.cntGood } : State).complete .data (BitVec.ofNat 16 (extractCount s.candidate s.maxsz.toNat))

/-- Bad frame (R221): the sentinel in full, whatever MAXSZ holds. -/
def State.badFrame (P : Params) (reason : Reason) (s : State) : State :=
  ({ s with
    rxbuf := Memory.writeFrom rxbufSize s.rxbuf 0 P.sentinel.toList
    failReason := reason
    cntBad := bumpCounter s.cntBad } : State).complete .badFrame 10

/-- CHECK arm (R219). -/
def checkArm (P : Params) (s : State) : State :=
  if (codecValidate P s.candidate).1 then s.goodFrame
  else s.badFrame P (codecValidate P s.candidate).2

end Sys2Proof.Machine
end

