-- ==== Sys2Proof/Machine/RegPort.lean ====
section
/-! DEFINITION. The register port (43_register_access.md): REG_READ, REG_WRITE and the register map R261. -/

namespace Sys2Proof.Machine

/-- STATUS, index 0x000: `{STATE[2:0], DONE, BUSY, CONNECTED}` (R261, R262). -/
def State.statusWord (s : State) : Word32 :=
  (s.state.code ++ BitVec.ofBool s.done ++ BitVec.ofBool s.busy ++ BitVec.ofBool s.connected).setWidth 32

/-- Index 0x007: `{RKIND[2:0], RESULT[15:0]}` (R262). -/
def State.resultWord (s : State) : Word32 := (s.rkind.code ++ s.result).setWidth 32

/-- RXINFO, index 0x008: `{FAIL_REASON[2:0], RX_SEQ[7:0]}` (R262). -/
def State.rxinfoWord (s : State) : Word32 := (s.failReason.code ++ s.rxSeq).setWidth 32

/-- PARAMS, index 0x00A: `{MAX_BLOCK[7:0], END_MARKER[7:0], START_MARKER[7:0]}` (R262). -/
def paramsWord (P : Params) : Word32 :=
  (BitVec.ofNat 8 P.maxBlock ++ P.endMarker ++ P.startMarker).setWidth 32

/-- READ(a) (R262); every other index reads 0 (R263). -/
def readReg (P : Params) (s : State) (a : Nat) : Word32 :=
  if a = 0x000 then s.statusWord
  else if a = 0x001 then s.seq.setWidth 32
  else if a = 0x002 then s.cntSent
  else if a = 0x003 then s.cntGood
  else if a = 0x004 then s.cntBad
  else if a = 0x005 then s.cntTimeout
  else if a = 0x006 then s.deadline
  else if a = 0x007 then s.resultWord
  else if a = 0x008 then s.rxinfoWord
  else if a = 0x009 then s.elapsed
  else if a = 0x00A then paramsWord P
  else if 0x100 ≤ a ∧ a ≤ 0x1F9 then (s.txbufByte (a - 0x100)).setWidth 32
  else if 0x200 ≤ a ∧ a ≤ 0x2F9 then (s.rxbufByte (a - 0x200)).setWidth 32
  else 0

/-- The register write rule (R264 to R267), with STATE as it is in `s`, before the edge. -/
def writeReg (s : State) (a : Nat) (d : Word32) : State :=
  if a = 0x006 then { s with deadline := d }
  else if 0x100 ≤ a ∧ a ≤ 0x1F9 ∧ s.state = .idle then
    { s with txbuf := Memory.write txbufSize s.txbuf (a - 0x100) (d.setWidth 8) }
  else s

/-- REG_READ (R262): `reg_rdata` shows READ(a); no state is written (R68; log 8). -/
def execRegRead (a : RegIndex) (s : State) : Host.Outcome State Fault Refusal :=
  .next { s with rdata := readReg Config.params s a.toNat }

/-- REG_WRITE (R264). -/
def execRegWrite (a : RegIndex) (d : Word32) (s : State) : Host.Outcome State Fault Refusal :=
  .next (writeReg s a.toNat d)

/-- The output ports in the period before an edge, for the register index the host drives (R110, R111, R262). -/
def State.outputs (P : Params) (s : State) (a : RegIndex) : Outputs :=
  { cmdReady := s.cmdReady
    done := s.done
    regRdata := readReg P s a.toNat
    txValid := s.txValid
    txData := s.txData
    rxReady := s.rxReady
    chanOpenReq := s.chanOpenReq
    chanCloseReq := s.chanCloseReq }

end Sys2Proof.Machine
end

