-- ==== Sys2Proof/Machine/Session.lean ====
section
/-! DEFINITION. The session commands (41_session.md): CONNECT, DISCONNECT, SEND, ACK and the reserved opcodes at their
accept edge, and the arms of the FSM that carry the first three to their completion. An arm reads the ports' sample `p`
and the state `s` before the edge. -/

namespace Sys2Proof.Machine

/-- CONNECT, accept edge (R175): STATE <- OPEN_WAIT, whatever CONNECTED holds. DBG, LEN and MAX are ignored (R105). -/
def execConnect (_dbg : Bool) (_len _maxsz : Byte) (s : State) : Host.Outcome State Fault Refusal :=
  .next (s.offer (s.goto .openWait))

/-- What a successful CONNECT clears and sets besides its result (R176, R177). -/
def State.openSession (s : State) : State :=
  { s with connected := true, seq := 0, cntSent := 0, cntGood := 0, cntBad := 0, cntTimeout := 0 }

/-- The result the channel's answer `code` gives: OK, 0 or TRANSPORT, -code (R176, R181). -/
def State.completeAnswer (s : State) (code : Byte) : State :=
  if code = 0 then s.complete .ok 0 else s.complete .transport (negResult code.toNat)

/-- OPEN_WAIT arm (R176 to R178). -/
def openWaitArm (p : Ports) (s : State) : State :=
  if p.chanDone then
    (if p.chanCode = 0 then s.openSession else s).completeAnswer p.chanCode
  else s.stay

/-- DISCONNECT, accept edge (R180): STATE <- CLOSE_WAIT, whatever CONNECTED holds. DBG, LEN and MAX are ignored. -/
def execDisconnect (_dbg : Bool) (_len _maxsz : Byte) (s : State) : Host.Outcome State Fault Refusal :=
  .next (s.offer (s.goto .closeWait))

/-- CLOSE_WAIT arm (R181, R182): CONNECTED <- 0 unconditionally. -/
def closeWaitArm (p : Ports) (s : State) : State :=
  if p.chanDone then ({ s with connected := false } : State).completeAnswer p.chanCode
  else s.stay

/-- SEND's transmission starts (R187): the frame is built from TXBUF and SEQ before the edge. -/
def State.startFrame (P : Params) (len : Nat) (s : State) : State :=
  { s.goto .tx with
    txframe := Memory.writeFrom txframeSize s.txframe 0 (codecBuild P (s.payload len) s.seq)
    txlen := BitVec.ofNat 8 (buildLength (s.payload len))
    txidx := 0 }

/-- SEND, accept edge (R185 to R187): NOT_CONNECTED, then SIZE, then the transmission. -/
def sendAccept (P : Params) (len : Nat) (s : State) : State :=
  if s.connected = false then s.complete .notConnected (negResult 1)
  else if P.maxBlock < len then s.complete .size (negResult 2)
  else s.startFrame P len

/-- SEND (R185): LEN is read, DBG and MAX are ignored (R105). -/
def execSend (_dbg : Bool) (len _maxsz : Byte) (s : State) : Host.Outcome State Fault Refusal :=
  .next (s.offer (sendAccept Config.params (byteOperand len) s))

/-- SEND success (R190). -/
def State.sendDone (s : State) : State :=
  ({ s with cntSent := bumpCounter s.cntSent, seq := nextSeq s.seq } : State).complete .ok 0

/-- The byte TXFRAME[TXIDX] goes onto the transmit wire (R188, R74). -/
def State.putByte (s : State) : State := { s with txWire := s.txWire ++ [s.txByte] }

/-- TX arm (R188 to R190): `tx_full` wins over `tx_ack`. -/
def txArm (p : Ports) (s : State) : State :=
  if p.txFull then s.complete .transport (negResult 3)
  else if p.txAck then
    if s.txidx.toNat + 1 = s.txlen.toNat then s.putByte.sendDone
    else ({ s.putByte with txidx := BitVec.ofNat 8 (s.txidx.toNat + 1) } : State).stay
  else s.stay

/-- ACK (R192, R108): `finish()` and nothing else. DBG, LEN and MAX are ignored. -/
def execAck (_dbg : Bool) (_len _maxsz : Byte) (s : State) : Host.Outcome State Fault Refusal :=
  .next (s.offer s.finish)

/-- Reserved OP 5 (R194): `complete(ILLEGAL, -)`. -/
def execReserved5 (_dbg : Bool) (_len _maxsz : Byte) (s : State) : Host.Outcome State Fault Refusal :=
  .next (s.offer (s.completeKeep .illegal))

/-- Reserved OP 6 (R194): `complete(ILLEGAL, -)`. -/
def execReserved6 (_dbg : Bool) (_len _maxsz : Byte) (s : State) : Host.Outcome State Fault Refusal :=
  .next (s.offer (s.completeKeep .illegal))

/-- Reserved OP 7 (R194): `complete(ILLEGAL, -)`. -/
def execReserved7 (_dbg : Bool) (_len _maxsz : Byte) (s : State) : Host.Outcome State Fault Refusal :=
  .next (s.offer (s.completeKeep .illegal))

end Sys2Proof.Machine
end

