-- ==== Sys2Proof/Machine/Dispatch.lean ====
section
/-! DEFINITION. The meaning of each operation: a command's accept edge (R172), a register operation (R112), a codec
function by itself (R130). -/

namespace Sys2Proof.Machine

def exec (i : Instr) (s : State) : Host.Outcome State Fault Refusal :=
  match i with
  | .connect dbg len maxsz => Sys2Proof.Machine.execConnect dbg len maxsz s
  | .disconnect dbg len maxsz => Sys2Proof.Machine.execDisconnect dbg len maxsz s
  | .send dbg len maxsz => Sys2Proof.Machine.execSend dbg len maxsz s
  | .receive dbg len maxsz => Sys2Proof.Machine.execReceive dbg len maxsz s
  | .ack dbg len maxsz => Sys2Proof.Machine.execAck dbg len maxsz s
  | .reserved5 dbg len maxsz => Sys2Proof.Machine.execReserved5 dbg len maxsz s
  | .reserved6 dbg len maxsz => Sys2Proof.Machine.execReserved6 dbg len maxsz s
  | .reserved7 dbg len maxsz => Sys2Proof.Machine.execReserved7 dbg len maxsz s
  | .regRead addr => Sys2Proof.Machine.execRegRead addr s
  | .regWrite addr data => Sys2Proof.Machine.execRegWrite addr data s
  | .checksum p => Sys2Proof.Machine.execChecksum p s
  | .ckOk p c => Sys2Proof.Machine.execCkOk p c s
  | .build p seq => Sys2Proof.Machine.execBuild p seq s
  | .validate f => Sys2Proof.Machine.execValidate f s
  | .extract f maxsz => Sys2Proof.Machine.execExtract f maxsz s

end Sys2Proof.Machine
end

