-- ==== Sys2Proof/Machine/Edge.lean ====
section
/-! DEFINITION. One rising edge of `clk` with a given sample of the input ports (41_session.md rule R170). -/

namespace Sys2Proof.Machine

/-- The sample of the input ports at the coming edge: the next one listed, or the free value of this edge (log 1). -/
def State.sample (s : State) : Ports := s.inputs.head?.getD (Config.freePorts s.edge)

/-- IDLE arm (R172): a command offered is accepted and its own meaning runs; else nothing changes. -/
def idleArm (p : Ports) (s : State) : Host.Outcome State Fault Refusal :=
  if p.cmdValid then exec (decodeCmd p.cmdWord) s else .next s.stay

/-- The FSM arm of the state before the edge (R170, item 2), with R170's item 4 for DONE. -/
def fsmArm (p : Ports) (s : State) : Host.Outcome State Fault Refusal :=
  match s.state with
  | .idle => idleArm p s
  | .openWait => .next (openWaitArm p s)
  | .closeWait => .next (closeWaitArm p s)
  | .tx => .next (txArm p s)
  | .hunt => .next (waitArm Config.params p s)
  | .len => .next (waitArm Config.params p s)
  | .body => .next (waitArm Config.params p s)
  | .check => .next (checkArm Config.params s)

/-- The register write of this edge, joined to the FSM arm's result `t` (R170, item 3): it reads the state `s` before the
edge, writes only DEADLINE and TXBUF, and the FSM arm writes neither (R73). -/
def State.joinWrite (p : Ports) (s t : State) : State :=
  if p.regWr then
    { t with
      deadline := (writeReg s p.regAddr.toNat p.regWdata).deadline
      txbuf := (writeReg s p.regAddr.toNat p.regWdata).txbuf }
  else t

/-- What the edge leaves besides the FLC's elements: the sample is used up, one more edge has passed, and `reg_rdata`
showed READ of the state before the edge (R262; log 1, log 8). -/
def State.passEdge (p : Ports) (s t : State) : State :=
  { t with
    inputs := s.inputs.tail, edge := s.edge + 1
    rdata := readReg Config.params s p.regAddr.toNat }

/-- The edge (R170): reset and nothing else, or one FSM arm with the register write in parallel. -/
def clockEdge (p : Ports) (s : State) : Host.Outcome State Fault Refusal :=
  if p.rst then .next (State.passEdge p s s.resetElements)
  else
    match fsmArm p s with
    | .next t => .next (State.passEdge p s (State.joinWrite p s t))
    | .fault e => .fault e
    | .refused r => .refused r

/-- The sample that offers the command word `w` with every other input low. -/
def Ports.offering (w : CmdWord) : Ports := { Ports.quiet with cmdValid := true, cmdWord := w }

/-- The state with the command word `w` offered at the very next edge, and the FLC IDLE so that it is accepted there
(R109, R172; log 13). -/
def State.offerNext (s : State) (w : CmdWord) : State :=
  { s with state := .idle, inputs := Ports.offering w :: s.inputs }

end Sys2Proof.Machine
end

