-- ==== Sys2Proof/Machine/Step.lean ====
section
/-! DEFINITION. One step of the machine is one rising edge of `clk` (00_scope.md rule R9, 41_session.md rule R170). -/

namespace Sys2Proof.Machine

/-- One step: the edge, with the ports as sampled. -/
def step (s : State) : Host.Outcome State Fault Refusal := clockEdge s.sample s

/-- `s` with the command word `w` offered on the command port at the next edge (log 13, log 14). -/
def State.withFetchWord (s : State) (_nbits w : Nat) : State := s.offerNext (BitVec.ofNat 20 w)

end Sys2Proof.Machine
end

