-- ==== Sys2Proof/Safety.lean ====
section
/-! DEFINITION. What the spec promises of every state a run reaches, in the terms the statements use: one predicate per
promise, and their conjunction `SafeState`. A run is `Host.Core.run Sys2Proof.core k`: k edges. -/

namespace Sys2Proof.Machine

/-- Every buffer is in its canonical form, with no index outside it (R39 to R42, R61). -/
def State.buffersCanonical (s : State) : Prop :=
  Memory.wf txbufSize s.txbuf ∧ Memory.wf rxbufSize s.rxbuf ∧
  Memory.wf txframeSize s.txframe ∧ Memory.wf framebufSize s.framebuf

/-- The frame being sent, TXFRAME[0..TXLEN-1] (R41). -/
def State.frameInTx (s : State) : List Byte := (List.range s.txlen.toNat).map s.txframeByte

/-- In TX the offset is inside the frame, every byte of it has been written, and it is a frame VALIDATE accepts
(R41, R61, R142, R187, R188). -/
def State.txHolds (s : State) : Prop :=
  s.state = .tx →
    s.txidx.toNat < s.txlen.toNat ∧
    (∀ i, i < s.txlen.toNat → (Memory.read? s.txframe i).isSome) ∧
    validateReason Config.params s.frameInTx = .none

/-- The candidate's bytes have all been written since a RECEIVE began (R42). -/
def State.candidateWritten (s : State) : Prop :=
  ∀ i, i < s.rxcount.toNat → (Memory.read? s.framebuf i).isSome

/-- What the receive path holds in each of its states (R61, R211, R215 to R217, R222). -/
def State.rxHolds (s : State) : Prop :=
  match s.state with
  | .hunt => s.rxcount = 0
  | .len => s.rxcount = 1 ∧ s.candidateWritten ∧ s.framebufByte 0 = Config.startMarker
  | .body =>
    2 ≤ s.rxcount.toNat ∧ s.rxcount.toNat < s.rxlen.toNat ∧ s.candidateWritten ∧
    s.framebufByte 0 = Config.startMarker ∧ s.framebufByte 1 = s.rxlen
  | .check =>
    (if s.rxlen.toNat ≤ 2 then s.rxcount = 2 else s.rxcount = s.rxlen) ∧ s.candidateWritten ∧
    s.framebufByte 0 = Config.startMarker ∧ s.framebufByte 1 = s.rxlen
  | .idle | .openWait | .closeWait | .tx => True

/-- A SEND or a RECEIVE runs only in the session state Connected (R185, R210, R289). -/
def State.busyConnected (s : State) : Prop :=
  s.state = .tx ∨ s.state = .hunt ∨ s.state = .len ∨ s.state = .body ∨ s.state = .check → s.connected = true

/-- RESULT holds a value its kind can have: the table R281. ILLEGAL keeps an earlier command's RESULT. -/
def State.resultFitsKind (s : State) : Prop :=
  match s.rkind with
  | .ok => s.result = 0x0000
  | .data => s.result.toNat ≤ 250
  | .badFrame => s.result = 0x000A
  | .timeout => s.result = 0xFFFC
  | .notConnected => s.result = 0xFFFF
  | .size => s.result = 0xFFFE
  | .transport => 0xFF01 ≤ s.result.toNat
  | .illegal => True

/-- While a RECEIVE waits, its time does not exceed its deadline (R33, R212). -/
def State.timeWithinDeadline (s : State) : Prop :=
  s.state.receiving = true → s.elapsed.toNat ≤ s.dl.toNat

/-- Everything above together, with: DONE is shown in IDLE only (R38, R171), and FAIL_REASON is never START (R222). -/
structure SafeState (s : State) : Prop where
  buffersCanonical : s.buffersCanonical
  txHolds : s.txHolds
  rxHolds : s.rxHolds
  busyConnected : s.busyConnected
  resultFitsKind : s.resultFitsKind
  timeWithinDeadline : s.timeWithinDeadline
  doneOnlyInIdle : s.done = true → s.state = .idle
  failReasonNotStart : s.failReason ≠ .start

/-- What an edge without reset leaves, where the FSM arm by itself leaves `t`: the register write and read join it. -/
def State.afterEdge (s t : State) : State := State.passEdge s.sample s (State.joinWrite s.sample s t)

/-- The sum of the bytes `g 0 .. g (n-1)` as integers (R10). -/
def sumOver (n : Nat) (g : Nat → Byte) : Nat := ((List.range n).map fun i => (g i).toNat).sum

/-- The reason R136 gives for the candidate `f 0 .. f (cnt-1)`, byte by byte: its four checks in order. -/
def frameReason (P : Params) (f : Nat → Byte) (cnt : Nat) : Reason :=
  if f 0 ≠ P.startMarker then .start
  else if f (cnt - 1) ≠ P.endMarker then .endMarker
  else if (f 1).toNat ≠ cnt ∨ cnt < 5 then .length
  else if (sumOver (cnt - 5) (fun i => f (3 + i)) + (f (cnt - 2)).toNat) % 256 ≠ 0 then .checksum
  else .none

/-- ELAPSED after a wait-state edge whose deadline has not elapsed: `sat32(ELAPSED + tick)` (R212). -/
def State.elapsedNext (s : State) : Word32 :=
  if s.sample.tick = true ∧ s.elapsed.toNat < 2 ^ 32 - 1 then s.elapsed + 1 else s.elapsed

/-- At this edge the channel takes the byte offered (R188). -/
def Ports.takesByte (p : Ports) : Prop := p.rst = false ∧ p.txAck = true ∧ p.txFull = false

/-- At this edge the channel offers byte `b` and reports no error (R214). -/
def Ports.offersByte (b : Byte) (p : Ports) : Prop :=
  p.rst = false ∧ p.rxErr = false ∧ p.rxValid = true ∧ p.rxData = b

/-- At this edge the channel offers nothing and one tick is counted (R212, R227). -/
def Ports.silentTick (p : Ports) : Prop :=
  p.rst = false ∧ p.rxErr = false ∧ p.rxValid = false ∧ p.tick = true

/-- At this edge the host offers the command `i` (R109). -/
def Ports.offersCmd (i : Instr) (p : Ports) : Prop :=
  p.rst = false ∧ p.cmdValid = true ∧ decodeCmd p.cmdWord = i

end Sys2Proof.Machine
end

