-- ==== Sys2Proof/Certificates/Slice0/Obligations.lean ====
section
/-! DEFINITION. The statements for the provers. Each one's docstring names the rules of spec/ it formalises. A statement
about an edge speaks of the sample `s.sample` the edge takes (the next one of `s.inputs`, or the free value), and of
`s.afterEdge t`: the state after the edge whose FSM arm by itself leaves `t`, as `RegisterPortJoinsEveryArm` describes it. -/

open Sys2Proof Sys2Proof.Machine

/-! ## Encoding -/

/-- R114's worked encodings and the reserved words of EN11: each decodes to the command it stands for. -/
def Obligations.WorkedCommandWordsDecode : Prop :=
  decodeCmd 0x00032 = .send false 3 0 ∧ decodeCmd 0xFA003 = .receive false 0 250 ∧
  decodeCmd 0x00FA2 = .send false 250 0 ∧ decodeCmd 0x00003 = .receive false 0 0 ∧
  decodeCmd 0x00008 = .connect true 0 0 ∧ decodeCmd 0x00005 = .reserved5 false 0 0

/-- Decoding an encoded operation gives it back, with every field at every value (R100 to R105, R112). -/
def Obligations.DecodeOfEncodeIsTheOperation : Prop :=
  ∀ i : Instr,
    (∀ w, encodeCmd i = some w → decodeCmd w = i) ∧
    (∀ wr a d, encodeReg i = some (wr, a, d) → decodeReg wr a d = i)

/-- Every 20-bit word decodes to exactly one command, and that command's word is the word: no bit is dropped (R105, R106). -/
def Obligations.EveryCommandWordHasOneCommand : Prop :=
  ∀ w : CmdWord, encodeCmd (decodeCmd w) = some w ∧ ∀ i, encodeCmd i = some w → i = decodeCmd w

/-- The fields a command does not read have no effect: DBG in all, LEN in all but SEND, MAX in all but RECEIVE (R105, R107). -/
def Obligations.UnreadFieldsHaveNoEffect : Prop :=
  ∀ (d d' : Bool) (l l' m m' : Byte) (s : State),
    exec (.connect d l m) s = exec (.connect d' l' m') s ∧
    exec (.disconnect d l m) s = exec (.disconnect d' l' m') s ∧
    exec (.send d l m) s = exec (.send d' l m') s ∧
    exec (.receive d l m) s = exec (.receive d' l' m) s ∧
    exec (.ack d l m) s = exec (.ack d' l' m') s ∧
    exec (.reserved5 d l m) s = exec (.reserved5 d' l' m') s ∧
    exec (.reserved6 d l m) s = exec (.reserved6 d' l' m') s ∧
    exec (.reserved7 d l m) s = exec (.reserved7 d' l' m') s

/-- Flipping DBG, `cmd_word[3]`, in an edge's sample changes nothing the edge leaves; a step is the edge with the state's
own sample; and no output depends on the command word (R102, R296). -/
def Obligations.DebugBitChangesNothing : Prop :=
  ∀ (s : State) (p : Ports),
    clockEdge { p with cmdWord := p.cmdWord ^^^ 0x00008 } s = clockEdge p s ∧ step s = clockEdge s.sample s

/-! ## The step -/

/-- A step runs the decoded command: in IDLE, at an edge without reset that offers a command, the step is that command's
meaning, with what the edge adds: a register write lands (R109, R170, R172), and the model's own fields move: one listed sample
is used up (log 1), and `rdata` records what `reg_rdata` showed before the edge (log 8). That `exec` is the accept edge
without the register port's part is the model's choice (log 2). -/
def Obligations.StepRunsTheOfferedCommand : Prop :=
  ∀ s t : State, s.state = .idle → s.sample.rst = false → s.sample.cmdValid = true →
    exec (decodeCmd s.sample.cmdWord) s = .next t →
    ∃ u, step s = .next u ∧
      u = { t with
        inputs := s.inputs.tail, edge := s.edge + 1
        rdata := readReg Config.params s s.sample.regAddr.toNat
        deadline := u.deadline, txbuf := u.txbuf } ∧
      exec (decodeReg s.sample.regWr s.sample.regAddr s.sample.regWdata) s =
        .next { s with deadline := u.deadline, txbuf := u.txbuf, rdata := if s.sample.regWr then s.rdata else u.rdata }

/-- `withFetchWord` offers the word at the very next edge, with the FLC IDLE so that it is accepted there: the sample that
edge takes holds the word the table's number stands for (R109, R172; log 13). -/
def Obligations.FetchedWordIsRunNext : Prop :=
  ∀ (s : State) (nbits w : Nat) (i : Instr), decodeTableWord nbits w = some i →
    (s.withFetchWord nbits w).state = .idle ∧ (s.withFetchWord nbits w).sample.rst = false ∧
    (s.withFetchWord nbits w).sample.cmdValid = true ∧ decodeCmd (s.withFetchWord nbits w).sample.cmdWord = i

/-- Whatever the FSM does at an edge without reset, DEADLINE and TXBUF change by the register write alone: the host writes
only those two, the FSM neither, and a TXBUF write lands only where STATE before the edge is IDLE (R73, R170, R264 to R267). -/
def Obligations.RegisterPortJoinsEveryArm : Prop :=
  ∀ s u : State, s.sample.rst = false → step s = .next u →
    u.deadline = (if s.sample.regWr = true ∧ s.sample.regAddr = 0x006 then s.sample.regWdata else s.deadline) ∧
    (∀ i, u.txbufByte i =
      if s.sample.regWr = true ∧ s.state = .idle ∧ i < 250 ∧ s.sample.regAddr.toNat = 0x100 + i
      then s.sample.regWdata.setWidth 8 else s.txbufByte i) ∧
    u.rdata = readReg Config.params s s.sample.regAddr.toNat ∧
    u.inputs = s.inputs.tail ∧ u.edge = s.edge + 1 ∧ u.epoch = s.epoch

/-- The FLC never stops: every edge of every state leaves a next state (R280). -/
def Obligations.EveryEdgeLeavesANextState : Prop :=
  ∀ s : State, ∃ t, step s = .next t

/-- A busy FLC turns a command away with none of its effect (R109). That `exec`, which no step calls outside IDLE, then answers
the state as it is, DONE too, is the model's choice (log 2); what an edge does is `CommandPortIsReadAtAcceptanceOnly`. -/
def Obligations.BusyFlcTurnsCommandsAway : Prop :=
  ∀ (i : Instr) (w : CmdWord) (s : State), encodeCmd i = some w → s.state ≠ .idle → exec i s = .next s

/-- The command port is not read at an edge where no command is accepted: with STATE other than IDLE neither `cmd_valid`
nor `cmd_word` matters, so nothing a host offers cancels a command; with `cmd_valid = 0` the word does not matter (R109, R173). -/
def Obligations.CommandPortIsReadAtAcceptanceOnly : Prop :=
  ∀ (s : State) (p : Ports) (w : CmdWord),
    (∀ v, s.state ≠ .idle → clockEdge { p with cmdValid := v, cmdWord := w } s = clockEdge p s) ∧
    (p.cmdValid = false → clockEdge { p with cmdWord := w } s = clockEdge p s) ∧
    step s = clockEdge s.sample s

/-- STATE after an edge, for every state and sample: the FSM's transitions, complete, RECEIVE's as R218 lists them and the
others as R172, R176, R181, R185 and R188 give them. -/
def Obligations.TransitionsAreTheListedOnes : Prop :=
  ∀ s t : State, s.sample.rst = false → step s = .next t →
    t.state =
      match s.state with
      | .idle =>
        if s.sample.cmdValid = false then .idle
        else if cmdOp s.sample.cmdWord = 0 then .openWait
        else if cmdOp s.sample.cmdWord = 1 then .closeWait
        else if cmdOp s.sample.cmdWord = 2 ∧ s.connected = true ∧ (cmdLen s.sample.cmdWord).toNat ≤ 250 then .tx
        else if cmdOp s.sample.cmdWord = 3 ∧ s.connected = true then .hunt
        else .idle
      | .openWait => if s.sample.chanDone = true then .idle else .openWait
      | .closeWait => if s.sample.chanDone = true then .idle else .closeWait
      | .tx =>
        if s.sample.txFull = true then .idle
        else if s.sample.txAck = true ∧ s.txidx.toNat + 1 = s.txlen.toNat then .idle
        else .tx
      | .hunt =>
        if s.dl.toNat ≤ s.elapsed.toNat then .idle
        else if s.sample.rxErr = true then .idle
        else if s.sample.rxValid = true ∧ s.sample.rxData = Config.startMarker then .len
        else .hunt
      | .len =>
        if s.dl.toNat ≤ s.elapsed.toNat then .idle
        else if s.sample.rxErr = true then .idle
        else if s.sample.rxValid = true ∧ s.sample.rxData.toNat ≤ 2 then .check
        else if s.sample.rxValid = true then .body
        else .len
      | .body =>
        if s.dl.toNat ≤ s.elapsed.toNat then .idle
        else if s.sample.rxErr = true then .idle
        else if s.sample.rxValid = true ∧ s.rxcount.toNat + 1 = s.rxlen.toNat then .check
        else .body
      | .check => .idle

/-- DONE after an edge without reset says whether a command ended at it: one accepted earlier returned to IDLE, or one
accepted at this edge stayed in IDLE (R38, R170, R171). -/
def Obligations.DoneMarksCompletionEdges : Prop :=
  ∀ s t : State, s.sample.rst = false → step s = .next t →
    (t.done = true ↔ t.state = .idle ∧ (s.state ≠ .idle ∨ s.sample.cmdValid = true))

/-- An IDLE edge without a command changes nothing: DONE falls, and the register port has its part of the edge (R170, R172). -/
def Obligations.IdleEdgeWithoutACommandChangesNothing : Prop :=
  ∀ s : State, s.state = .idle → s.sample.rst = false → s.sample.cmdValid = false →
    step s = .next (s.afterEdge { s with done := false })

/-! ## Reset and outputs -/

/-- The state after reset holds the values R310 gives; the wires and the model's own fields hold the model's (log 7, 17),
and every buffer byte is free (log 5). -/
def Obligations.ResetStateHoldsTheGivenValues : Prop :=
  State.reset.state = .idle ∧ State.reset.connected = false ∧ State.reset.seq = 0 ∧
  State.reset.cntSent = 0 ∧ State.reset.cntGood = 0 ∧ State.reset.cntBad = 0 ∧ State.reset.cntTimeout = 0 ∧
  State.reset.deadline = Config.deadlineReset ∧ State.reset.dl = 0 ∧ State.reset.elapsed = 0 ∧
  State.reset.result = 0x0000 ∧ State.reset.rkind = .ok ∧ State.reset.rxSeq = 0x00 ∧ State.reset.failReason = .none ∧
  State.reset.done = false ∧ State.reset.txlen = 0 ∧ State.reset.txidx = 0 ∧
  State.reset.rxcount = 0 ∧ State.reset.rxlen = 0 ∧ State.reset.maxsz = 0 ∧
  (∀ i, State.reset.txbufByte i = Config.freeTxbuf 0 i ∧ State.reset.rxbufByte i = Config.freeRxbuf 0 i ∧
    State.reset.txframeByte i = Config.freeTxframe 0 i ∧ State.reset.framebufByte i = Config.freeFramebuf 0 i)

/-- An edge with `rst = 1` gives every element its reset value, whatever the state and the other inputs; no register write
takes effect; the bytes the channel has taken and the bytes consumed stay as they are (R310, R313). -/
def Obligations.ResetEdgeGivesEveryElementItsResetValue : Prop :=
  ∀ s : State, s.sample.rst = true →
    ∃ t, step s = .next t ∧
      t = { state := .idle, connected := false, seq := 0
            cntSent := 0, cntGood := 0, cntBad := 0, cntTimeout := 0
            deadline := Config.deadlineReset, dl := 0, elapsed := 0
            result := 0x0000, rkind := .ok, rxSeq := 0x00, failReason := .none, done := false
            txbuf := t.txbuf, rxbuf := t.rxbuf, txframe := t.txframe, txlen := 0, txidx := 0
            framebuf := t.framebuf, rxcount := 0, rxlen := 0, maxsz := 0
            txWire := s.txWire, rxWire := s.rxWire
            inputs := s.inputs.tail, edge := s.edge + 1, epoch := s.epoch + 1
            rdata := t.rdata, codecOut := s.codecOut } ∧
      ∀ i, t.txbufByte i = Config.freeTxbuf (s.epoch + 1) i ∧ t.rxbufByte i = Config.freeRxbuf (s.epoch + 1) i ∧
        t.txframeByte i = Config.freeTxframe (s.epoch + 1) i ∧ t.framebufByte i = Config.freeFramebuf (s.epoch + 1) i

/-- The outputs after a reset edge, and what the FLC then is: waiting in IDLE, Disconnected (R311). -/
def Obligations.OutputsAfterAResetEdge : Prop :=
  ∀ (s t : State) (a : RegIndex), s.sample.rst = true → step s = .next t →
    t.outputs Config.params a =
      { cmdReady := true, done := false, regRdata := readReg Config.params t a.toNat, txValid := false, txData := 0x00
        rxReady := false, chanOpenReq := false, chanCloseReq := false } ∧
    t.state = .idle ∧ t.connected = false

/-- The outputs as functions of the state (R110, R111), and `reg_rdata` of the state and of `reg_addr`: the word REG_READ shows
(R262), which `RegReadShowsTheRegisterMap` gives bit by bit; the field `rdata` that shows it is the model's own (log 8). -/
def Obligations.OutputsAreTheListedFunctions : Prop :=
  ∀ (s : State) (a : RegIndex),
    (s.outputs Config.params a).cmdReady = decide (s.state = .idle) ∧
    (s.outputs Config.params a).txValid = decide (s.state = .tx) ∧
    (s.outputs Config.params a).txData = (if s.state = .tx then s.txframeByte s.txidx.toNat else 0x00) ∧
    (s.outputs Config.params a).rxReady =
      decide ((s.state = .hunt ∨ s.state = .len ∨ s.state = .body) ∧ ¬ s.dl.toNat ≤ s.elapsed.toNat) ∧
    (s.outputs Config.params a).chanOpenReq = decide (s.state = .openWait) ∧
    (s.outputs Config.params a).chanCloseReq = decide (s.state = .closeWait) ∧
    (s.outputs Config.params a).done = s.done ∧
    exec (.regRead a) s = .next { s with rdata := (s.outputs Config.params a).regRdata }

/-! ## Session commands -/

/-- CONNECT: the words with OP 0 decode to it; accepted in IDLE whatever CONNECTED holds, it leaves OPEN_WAIT, where the
channel is asked to open, and changes nothing else (R175). -/
def Obligations.ConnectAsksTheChannelToOpen : Prop :=
  (∀ w : CmdWord, cmdOp w = 0 → decodeCmd w = .connect (cmdDbg w) (cmdLen w) (cmdMax w)) ∧
  ∀ (d : Bool) (l m : Byte) (s : State), s.state = .idle →
    exec (.connect d l m) s = .next { s with state := .openWait, done := false } ∧
    ({ s with state := .openWait, done := false } : State).chanOpenReq = true

/-- DISCONNECT: the words with OP 1 decode to it; accepted in IDLE whatever CONNECTED holds, it leaves CLOSE_WAIT, where the
channel is asked to close, and changes nothing else (R180). -/
def Obligations.DisconnectAsksTheChannelToClose : Prop :=
  (∀ w : CmdWord, cmdOp w = 1 → decodeCmd w = .disconnect (cmdDbg w) (cmdLen w) (cmdMax w)) ∧
  ∀ (d : Bool) (l m : Byte) (s : State), s.state = .idle →
    exec (.disconnect d l m) s = .next { s with state := .closeWait, done := false } ∧
    ({ s with state := .closeWait, done := false } : State).chanCloseReq = true

/-- OPEN_WAIT: it waits; on answer 0 it connects, clears SEQ and the four counters and completes OK, 0; on answer `c` it
completes TRANSPORT, `-c`, and leaves CONNECTED, SEQ and the counters (R176 to R178). -/
def Obligations.OpenWaitTakesTheChannelsAnswer : Prop :=
  ∀ s : State, s.state = .openWait → s.sample.rst = false →
    step s = .next (s.afterEdge (
      if s.sample.chanDone = false then { s with done := false }
      else if s.sample.chanCode = 0 then
        { s with
          connected := true, seq := 0, cntSent := 0, cntGood := 0, cntBad := 0, cntTimeout := 0
          result := 0x0000, rkind := .ok, state := .idle, done := true }
      else
        { s with
          result := BitVec.ofNat 16 (0x10000 - s.sample.chanCode.toNat), rkind := .transport, state := .idle
          done := true }))

/-- CLOSE_WAIT: it waits; on any answer CONNECTED falls and the answer is the result; SEQ, the counters, RXBUF, RX_SEQ and
FAIL_REASON stay (R181, R182). -/
def Obligations.CloseWaitTakesTheChannelsAnswer : Prop :=
  ∀ s : State, s.state = .closeWait → s.sample.rst = false →
    step s = .next (s.afterEdge (
      if s.sample.chanDone = false then { s with done := false }
      else if s.sample.chanCode = 0 then
        { s with connected := false, result := 0x0000, rkind := .ok, state := .idle, done := true }
      else
        { s with
          connected := false
          result := BitVec.ofNat 16 (0x10000 - s.sample.chanCode.toNat), rkind := .transport, state := .idle
          done := true }))

/-- SEND turned down at its accept edge: not connected first, then too long; only RESULT and RKIND change, and the FLC is
still IDLE (R185, R186). -/
def Obligations.SendChecksConnectionThenSize : Prop :=
  ∀ (d : Bool) (l m : Byte) (s : State), s.state = .idle →
    (s.connected = false →
      exec (.send d l m) s = .next { s with result := 0xFFFF, rkind := .notConnected, done := true }) ∧
    (s.connected = true → 250 < l.toNat →
      exec (.send d l m) s = .next { s with result := 0xFFFE, rkind := .size, done := true })

/-- SEND that passes its checks: TXFRAME takes the frame of TXBUF[0..len-1] and SEQ, byte by byte, as R134 lays it out;
the bytes past it, SEQ and everything else stay (R187, R134). -/
def Obligations.SendBuildsTheFrameAndStartsTx : Prop :=
  ∀ (d : Bool) (l m : Byte) (s : State), s.state = .idle → s.connected = true → l.toNat ≤ 250 →
    ∃ t, exec (.send d l m) s = .next t ∧
      t = { s with state := .tx, done := false, txframe := t.txframe, txlen := t.txlen, txidx := 0 } ∧
      t.txlen.toNat = l.toNat + 5 ∧
      t.txframeByte 0 = Config.startMarker ∧
      t.txframeByte 1 = BitVec.ofNat 8 (l.toNat + 5) ∧
      t.txframeByte 2 = s.seq.setWidth 8 ∧
      (∀ i, i < l.toNat → t.txframeByte (3 + i) = s.txbufByte i) ∧
      (t.txframeByte (l.toNat + 3)).toNat = (256 - sumOver l.toNat s.txbufByte % 256) % 256 ∧
      t.txframeByte (l.toNat + 4) = Config.endMarker ∧
      ∀ i, l.toNat + 5 ≤ i → t.txframeByte i = s.txframeByte i

/-- TX: `tx_full` ends the SEND with TRANSPORT, -3 and wins over `tx_ack`; an accepted byte goes onto the wire; the last one
completes OK, 0, counts the frame and advances SEQ mod 16; without either input the FLC waits (R188 to R190). -/
def Obligations.TxHandsOverOneByteAnEdge : Prop :=
  ∀ s : State, s.state = .tx → s.sample.rst = false →
    step s = .next (s.afterEdge (
      if s.sample.txFull = true then { s with result := 0xFFFD, rkind := .transport, state := .idle, done := true }
      else if s.sample.txAck = false then { s with done := false }
      else if s.txidx.toNat + 1 = s.txlen.toNat then
        { s with
          txWire := s.txWire ++ [s.txframeByte s.txidx.toNat]
          cntSent := s.cntSent + 1, seq := s.seq + 1
          result := 0x0000, rkind := .ok, state := .idle, done := true }
      else
        { s with
          txWire := s.txWire ++ [s.txframeByte s.txidx.toNat]
          txidx := s.txidx + 1, done := false }))

/-- ACK: the words with OP 4 decode to it; accepted in IDLE it changes nothing but DONE (R192). -/
def Obligations.AckOnlyRaisesDone : Prop :=
  (∀ w : CmdWord, cmdOp w = 4 → decodeCmd w = .ack (cmdDbg w) (cmdLen w) (cmdMax w)) ∧
  ∀ (d : Bool) (l m : Byte) (s : State), s.state = .idle →
    exec (.ack d l m) s = .next { s with done := true }

/-- The reserved opcodes 5, 6, 7 decode each to its own row; accepted in IDLE each changes RKIND and DONE and nothing
else (R194). -/
def Obligations.ReservedOpcodesReportIllegal : Prop :=
  (∀ w : CmdWord,
    (cmdOp w = 5 → decodeCmd w = .reserved5 (cmdDbg w) (cmdLen w) (cmdMax w)) ∧
    (cmdOp w = 6 → decodeCmd w = .reserved6 (cmdDbg w) (cmdLen w) (cmdMax w)) ∧
    (cmdOp w = 7 → decodeCmd w = .reserved7 (cmdDbg w) (cmdLen w) (cmdMax w))) ∧
  ∀ (d : Bool) (l m : Byte) (s : State), s.state = .idle →
    exec (.reserved5 d l m) s = .next { s with rkind := .illegal, done := true } ∧
    exec (.reserved6 d l m) s = .next { s with rkind := .illegal, done := true } ∧
    exec (.reserved7 d l m) s = .next { s with rkind := .illegal, done := true }

/-! ## RECEIVE -/

/-- RECEIVE at its accept edge: not connected, it completes NOT_CONNECTED, -1 and changes nothing else; connected, it takes
the deadline, clears ELAPSED and RXCOUNT, keeps MAX and hunts (R210, R211). -/
def Obligations.ReceiveTakesTheDeadlineAndHunts : Prop :=
  ∀ (d : Bool) (l m : Byte) (s : State), s.state = .idle →
    (s.connected = false →
      exec (.receive d l m) s = .next { s with result := 0xFFFF, rkind := .notConnected, done := true }) ∧
    (s.connected = true →
      exec (.receive d l m) s =
        .next { s with dl := s.deadline, elapsed := 0, maxsz := m, rxcount := 0, state := .hunt, done := false })

/-- The timeout: in HUNT, LEN or BODY, once ELAPSED has reached DL, whatever the receive port shows: the counter counts it,
the result is TIMEOUT, -4, no byte is consumed and nothing else changes (R213). -/
def Obligations.TimeoutEndsTheReceive : Prop :=
  ∀ s : State, (s.state = .hunt ∨ s.state = .len ∨ s.state = .body) → s.sample.rst = false →
    s.dl.toNat ≤ s.elapsed.toNat →
    step s = .next (s.afterEdge
      { s with cntTimeout := s.cntTimeout + 1, result := 0xFFFC, rkind := .timeout, state := .idle, done := true }) ∧
    s.rxReady = false

/-- Before the deadline, without a byte: `rx_err` ends the RECEIVE with TRANSPORT, -3, and wins over `rx_valid`; else the
FLC waits; either way ELAPSED counts the tick (R212, R214). -/
def Obligations.WaitEdgeWithoutAByte : Prop :=
  ∀ s : State, (s.state = .hunt ∨ s.state = .len ∨ s.state = .body) → s.sample.rst = false →
    s.elapsed.toNat < s.dl.toNat →
    s.rxReady = true ∧
    (s.sample.rxErr = true →
      step s = .next (s.afterEdge
        { s with elapsed := s.elapsedNext, result := 0xFFFD, rkind := .transport, state := .idle, done := true })) ∧
    (s.sample.rxErr = false → s.sample.rxValid = false →
      step s = .next (s.afterEdge { s with elapsed := s.elapsedNext, done := false }))

/-- HUNT, a byte consumed: the start marker becomes FRAMEBUF[0]; any other byte is discarded (R215). -/
def Obligations.HuntScansForTheStartMarker : Prop :=
  ∀ s : State, s.state = .hunt → s.sample.rst = false → s.elapsed.toNat < s.dl.toNat →
    s.sample.rxErr = false → s.sample.rxValid = true →
    (s.sample.rxData ≠ Config.startMarker →
      step s = .next (s.afterEdge
        { s with elapsed := s.elapsedNext, rxWire := s.rxWire ++ [s.sample.rxData], done := false })) ∧
    (s.sample.rxData = Config.startMarker →
      ∃ t, step s = .next t ∧
        t = s.afterEdge { s with
          elapsed := s.elapsedNext, rxWire := s.rxWire ++ [s.sample.rxData]
          framebuf := t.framebuf, rxcount := 1, state := .len, done := false } ∧
        ∀ i, t.framebufByte i = if i = 0 then s.sample.rxData else s.framebufByte i)

/-- LEN, a byte consumed: it is FRAMEBUF[1] and the declared length whatever its value; 0, 1 and 2 go to CHECK, the rest to
BODY (R216). -/
def Obligations.LenTakesTheDeclaredLength : Prop :=
  ∀ s : State, s.state = .len → s.sample.rst = false → s.elapsed.toNat < s.dl.toNat →
    s.sample.rxErr = false → s.sample.rxValid = true →
    ∃ t, step s = .next t ∧
      t = s.afterEdge { s with
        elapsed := s.elapsedNext, rxWire := s.rxWire ++ [s.sample.rxData]
        framebuf := t.framebuf, rxlen := s.sample.rxData, rxcount := 2
        state := if s.sample.rxData.toNat ≤ 2 then .check else .body, done := false } ∧
      ∀ i, t.framebufByte i = if i = 1 then s.sample.rxData else s.framebufByte i

/-- BODY, a byte consumed: it is FRAMEBUF[RXCOUNT], RXCOUNT counts it, and the byte that makes RXCOUNT the declared length
goes to CHECK. RXCOUNT is at most 254 where a byte is stored (R61), which `StepKeepsEveryPromise` keeps (R217). -/
def Obligations.BodyCollectsTheDeclaredBytes : Prop :=
  ∀ s : State, s.state = .body → s.sample.rst = false → s.elapsed.toNat < s.dl.toNat →
    s.sample.rxErr = false → s.sample.rxValid = true → s.rxcount.toNat ≤ 254 →
    ∃ t, step s = .next t ∧
      t = s.afterEdge { s with
        elapsed := s.elapsedNext, rxWire := s.rxWire ++ [s.sample.rxData]
        framebuf := t.framebuf, rxcount := s.rxcount + 1
        state := if s.rxcount.toNat + 1 = s.rxlen.toNat then .check else .body, done := false } ∧
      ∀ i, t.framebufByte i = if i = s.rxcount.toNat then s.sample.rxData else s.framebufByte i

/-- CHECK, a good frame: RXBUF takes the first `min(cnt - 5, MAXSZ)` payload bytes and keeps the rest, RX_SEQ the whole
sequence byte, FAIL_REASON NONE, the counter counts it, the result is DATA and the count (R219, R220). -/
def Obligations.CheckOfAGoodFrame : Prop :=
  ∀ s : State, s.state = .check → s.sample.rst = false →
    frameReason Config.params s.framebufByte s.rxcount.toNat = .none →
    ∃ t, step s = .next t ∧
      t = s.afterEdge { s with
        rxbuf := t.rxbuf, rxSeq := s.framebufByte 2, failReason := .none, cntGood := s.cntGood + 1
        result := BitVec.ofNat 16 (min (s.rxcount.toNat - 5) s.maxsz.toNat), rkind := .data
        state := .idle, done := true } ∧
      ∀ i, t.rxbufByte i =
        if i < min (s.rxcount.toNat - 5) s.maxsz.toNat then s.framebufByte (3 + i) else s.rxbufByte i

/-- CHECK, a bad frame: RXBUF[0..9] takes the sentinel whatever MAXSZ holds, FAIL_REASON the first failing check, the
counter counts it, the result is BAD_FRAME, 10; RX_SEQ and the rest of RXBUF stay (R219, R221). A candidate has at least
one byte (R135), which `StepKeepsEveryPromise` keeps. -/
def Obligations.CheckOfABadFrame : Prop :=
  ∀ s : State, s.state = .check → s.sample.rst = false → 1 ≤ s.rxcount.toNat →
    frameReason Config.params s.framebufByte s.rxcount.toNat ≠ .none →
    ∃ t, step s = .next t ∧
      t = s.afterEdge { s with
        rxbuf := t.rxbuf, failReason := frameReason Config.params s.framebufByte s.rxcount.toNat
        cntBad := s.cntBad + 1, result := 0x000A, rkind := .badFrame, state := .idle, done := true } ∧
      (∀ i : Fin 10, t.rxbufByte i.val = Config.sentinelByte i) ∧
      ∀ i, 10 ≤ i → t.rxbufByte i = s.rxbufByte i

/-- A byte is consumed exactly at an edge where `rx_ready = 1`, `rx_valid = 1` and `rx_err = 0`, and at most one (R214,
R226); the transmit wire grows exactly by the byte the channel takes (R188). -/
def Obligations.WiresGrowExactlyAtTransfers : Prop :=
  ∀ s t : State, s.sample.rst = false → step s = .next t →
    t.rxWire =
      (if s.rxReady = true ∧ s.sample.rxValid = true ∧ s.sample.rxErr = false
       then s.rxWire ++ [s.sample.rxData] else s.rxWire) ∧
    t.txWire =
      (if s.txValid = true ∧ s.sample.txAck = true ∧ s.sample.txFull = false
       then s.txWire ++ [s.txData] else s.txWire)

/-! ## Register port -/

/-- REG_READ of every index, bit by bit as the register map lays the words out, unmapped indices 0; no element is
written (R262, R263). -/
def Obligations.RegReadShowsTheRegisterMap : Prop :=
  ∀ (a : RegIndex) (s : State), ∃ v : Word32,
    exec (.regRead a) s = .next { s with rdata := v } ∧
    (a = 0x000 →
      v.getLsbD 0 = s.connected ∧ v.getLsbD 1 = decide (s.state ≠ .idle) ∧ v.getLsbD 2 = s.done ∧
      v.extractLsb' 3 3 = s.state.code ∧ v.extractLsb' 6 26 = 0) ∧
    (a = 0x001 → v = s.seq.setWidth 32) ∧
    (a = 0x002 → v = s.cntSent) ∧ (a = 0x003 → v = s.cntGood) ∧
    (a = 0x004 → v = s.cntBad) ∧ (a = 0x005 → v = s.cntTimeout) ∧
    (a = 0x006 → v = s.deadline) ∧
    (a = 0x007 → v.extractLsb' 0 16 = s.result ∧ v.extractLsb' 16 3 = s.rkind.code ∧ v.extractLsb' 19 13 = 0) ∧
    (a = 0x008 → v.extractLsb' 0 8 = s.rxSeq ∧ v.extractLsb' 8 3 = s.failReason.code ∧ v.extractLsb' 11 21 = 0) ∧
    (a = 0x009 → v = s.elapsed) ∧
    (a = 0x00A →
      v.extractLsb' 0 8 = Config.startMarker ∧ v.extractLsb' 8 8 = Config.endMarker ∧
      v.extractLsb' 16 8 = 250 ∧ v.extractLsb' 24 8 = 0) ∧
    (∀ i, i < 250 → a.toNat = 0x100 + i → v = (s.txbufByte i).setWidth 32) ∧
    (∀ i, i < 250 → a.toNat = 0x200 + i → v = (s.rxbufByte i).setWidth 32) ∧
    (0x00B ≤ a.toNat ∧ a.toNat ≤ 0x0FF ∨ 0x1FA ≤ a.toNat ∧ a.toNat ≤ 0x1FF ∨ 0x2FA ≤ a.toNat → v = 0)

/-- REG_WRITE: DEADLINE in any state; a TXBUF byte, the low eight bits, where STATE is IDLE; every other write, a TXBUF
write while busy among them, changes nothing (R264 to R267). -/
def Obligations.RegWriteReachesDeadlineAndTxbufOnly : Prop :=
  ∀ (a : RegIndex) (v : Word32) (s : State),
    (a = 0x006 → exec (.regWrite a v) s = .next { s with deadline := v }) ∧
    (0x100 ≤ a.toNat ∧ a.toNat ≤ 0x1F9 ∧ s.state = .idle →
      ∃ t, exec (.regWrite a v) s = .next t ∧ t = { s with txbuf := t.txbuf } ∧
        ∀ i, t.txbufByte i = if i = a.toNat - 0x100 then v.setWidth 8 else s.txbufByte i) ∧
    (a ≠ 0x006 → ¬ (0x100 ≤ a.toNat ∧ a.toNat ≤ 0x1F9 ∧ s.state = .idle) → exec (.regWrite a v) s = .next s)

/-- A TXBUF write at the SEND accept edge lands in TXBUF but not in that SEND's frame (R320, R266). -/
def Obligations.WriteAtTheSendEdgeMissesTheFrame : Prop :=
  ∀ (s : State) (d : Bool) (l m : Byte) (i : Nat), s.state = .idle → s.connected = true → l.toNat ≤ 250 →
    s.sample.offersCmd (.send d l m) → i < 250 → s.sample.regWr = true → s.sample.regAddr.toNat = 0x100 + i →
    ∃ t, step s = .next t ∧ t.state = .tx ∧ t.txbufByte i = s.sample.regWdata.setWidth 8 ∧
      ∀ j, j < l.toNat → t.txframeByte (3 + j) = s.txbufByte j

/-- A DEADLINE write at the RECEIVE accept edge is not seen by that RECEIVE (R322, R265). -/
def Obligations.WriteAtTheReceiveEdgeMissesTheDeadline : Prop :=
  ∀ (s : State) (d : Bool) (l m : Byte), s.state = .idle → s.connected = true →
    s.sample.offersCmd (.receive d l m) → s.sample.regWr = true → s.sample.regAddr = 0x006 →
    ∃ t, step s = .next t ∧ t.state = .hunt ∧ t.dl = s.deadline ∧ t.deadline = s.sample.regWdata

/-! ## The codec -/

/-- CHECKSUM by itself, for a payload of at most 250 bytes: the byte of R131, and no element written; a longer operand is
outside R131's range and refused by name (log 10). -/
def Obligations.ChecksumIsTheAdditiveComplement : Prop :=
  ∀ (p : List Byte) (s : State),
    (p.length ≤ 250 →
      ∃ c : Byte, exec (.checksum p) s = .next { s with codecOut := .checksum c } ∧
        c.toNat = (256 - (p.map BitVec.toNat).sum % 256) % 256) ∧
    (250 < p.length → exec (.checksum p) s = .refused .codecOperandOutOfRange)

/-- CK_OK by itself, for a payload of at most 250 bytes: the bit of R132, and no element written; a longer operand is
refused by name (log 10). -/
def Obligations.CkOkIsTheCongruence : Prop :=
  ∀ (p : List Byte) (c : Byte) (s : State),
    (p.length ≤ 250 →
      exec (.ckOk p c) s =
        .next { s with codecOut := .ckOk (decide (((p.map BitVec.toNat).sum + c.toNat) % 256 = 0)) }) ∧
    (250 < p.length → exec (.ckOk p c) s = .refused .codecOperandOutOfRange)

/-- BUILD by itself, for a payload of at most MAX_BLOCK bytes: the frame byte by byte as R134 lays it out, its length, and
no element written; a longer operand never reaches BUILD and is refused by name (log 10). -/
def Obligations.BuildLaysOutTheFrame : Prop :=
  ∀ (p : List Byte) (q : SeqNum) (s : State),
    (p.length ≤ 250 →
      ∃ f : List Byte, exec (.build p q) s = .next { s with codecOut := .frame f (p.length + 5) } ∧
        f.length = p.length + 5 ∧
        f[0]? = some Config.startMarker ∧ f[1]? = some (BitVec.ofNat 8 (p.length + 5)) ∧
        f[2]? = some (q.setWidth 8) ∧ (∀ i, i < p.length → f[3 + i]? = p[i]?) ∧
        (∃ c : Byte, f[p.length + 3]? = some c ∧ c.toNat = (256 - (p.map BitVec.toNat).sum % 256) % 256) ∧
        f[p.length + 4]? = some Config.endMarker) ∧
    (250 < p.length → exec (.build p q) s = .refused .codecOperandOutOfRange)

/-- VALIDATE by itself, for 1 to 255 bytes: the four checks in order, the first that fails, and no element written; a
candidate of another length is outside R135's range and refused by name (log 10). -/
def Obligations.ValidateMakesFourChecksInOrder : Prop :=
  ∀ (f : List Byte) (s : State),
    (1 ≤ f.length → f.length ≤ 255 →
      exec (.validate f) s =
        .next { s with
          codecOut := .verdict (decide (frameReason Config.params (f.getD · 0) f.length = .none))
            (frameReason Config.params (f.getD · 0) f.length) }) ∧
    (f.length = 0 ∨ 255 < f.length → exec (.validate f) s = .refused .codecOperandOutOfRange)

/-- EXTRACT by itself, on a candidate that passes VALIDATE: `m = min(cnt - 5, maxsz)` payload bytes from offset 3, the count
and the whole byte at offset 2, and no element written; a candidate that fails VALIDATE is never extracted, and refused by
name (R139 to R141; log 10). -/
def Obligations.ExtractTakesTheTruncatedPayload : Prop :=
  ∀ (f : List Byte) (z : Byte) (s : State),
    (f.length ≤ 255 → frameReason Config.params (f.getD · 0) f.length = .none →
      ∃ p : List Byte,
        exec (.extract f z) s =
          .next { s with codecOut := .extracted p (min (f.length - 5) z.toNat) (f.getD 2 0) } ∧
        p.length = min (f.length - 5) z.toNat ∧ ∀ i, i < p.length → p[i]? = f[3 + i]?) ∧
    (5 ≤ f.length → f.length ≤ 255 → frameReason Config.params (f.getD · 0) f.length ≠ .none →
      exec (.extract f z) s = .refused .extractOfUnvalidatedFrame) ∧
    (f.length < 5 ∨ 255 < f.length → exec (.extract f z) s = .refused .codecOperandOutOfRange)

/-- CHECKSUM's byte passes CK_OK, and no other byte does (R133). -/
def Obligations.ChecksumIsTheOnlyPassingByte : Prop :=
  ∀ (p : List Byte) (c : Byte), codecCkOk p c = true ↔ c = codecChecksum p

/-- The round trip, for every value of the parameters: a built frame has n + 5 bytes, VALIDATE passes it, and
EXTRACT gives back the payload, its count and the sequence number (R142). -/
def Obligations.BuiltFrameValidatesAndExtracts : Prop :=
  ∀ (P : Params) (p : List Byte) (q : SeqNum) (maxsz : Nat), p.length ≤ 250 → p.length ≤ maxsz →
    (codecBuild P p q).length = p.length + 5 ∧
    codecValidate P (codecBuild P p q) = (true, .none) ∧
    codecExtract (codecBuild P p q) maxsz = (p, p.length, q.setWidth 8)

/-- One flipped bit in a good frame of unchanged byte count: VALIDATE fails at START, END, LENGTH or CHECKSUM by the offset
it is in, and passes only where the offset is 2, the sequence byte (R143). -/
def Obligations.SingleBitErrorIsCaughtOutsideTheSequenceByte : Prop :=
  ∀ (P : Params) (f : List Byte) (j : Nat) (k : Fin 8) (b : Byte),
    codecValidate P f = (true, .none) → f[j]? = some b →
    validateReason P (f.set j (b ^^^ BitVec.twoPow 8 k.val)) =
      if j = 0 then .start else if j = f.length - 1 then .endMarker else if j = 1 then .length
      else if j = 2 then .none else .checksum

/-! ## Promises every edge keeps -/

/-- The canonical form of the four buffers is kept by every edge of every state that has it (R39 to R42, R61). -/
def Obligations.EveryEdgeKeepsTheBuffersCanonical : Prop :=
  ∀ s t : State, s.buffersCanonical → step s = .next t → t.buffersCanonical

/-- Every promise of `SafeState` is kept by every edge: buffer indices in range, TX sends a whole valid frame, the
candidate's bytes, Connected while a SEND or RECEIVE runs, RESULT as RKIND's row of R281 allows, ELAPSED within DL, DONE only
in IDLE, FAIL_REASON never START (R38, R41, R42, R61, R212, R222, R281). -/
def Obligations.StepKeepsEveryPromise : Prop :=
  ∀ s t : State, SafeState s → step s = .next t → SafeState t

/-- The reset state keeps every promise (R310). -/
def Obligations.ResetKeepsEveryPromise : Prop := SafeState State.reset

/-- CONNECTED changes only by a channel answer: it rises on a CONNECT's answer 0 and falls on a DISCONNECT's answer (R24). -/
def Obligations.ConnectedChangesByTheChannelsAnswerOnly : Prop :=
  ∀ s t : State, s.sample.rst = false → step s = .next t → t.connected ≠ s.connected →
    s.sample.chanDone = true ∧
    (s.state = .openWait ∧ s.sample.chanCode = 0 ∧ t.connected = true ∨ s.state = .closeWait ∧ t.connected = false)

/-- SEQ is set to 0 by a successful CONNECT, advances by one mod 16 at a SEND's success, and nothing else writes it (R25). -/
def Obligations.SeqChangesByConnectAndSendOnly : Prop :=
  ∀ s t : State, s.sample.rst = false → step s = .next t →
    t.seq =
      if s.state = .openWait ∧ s.sample.chanDone = true ∧ s.sample.chanCode = 0 then 0
      else if s.state = .tx ∧ s.sample.txFull = false ∧ s.sample.txAck = true ∧ s.txidx.toNat + 1 = s.txlen.toNat
      then BitVec.ofNat 4 ((s.seq.toNat + 1) % 16)
      else s.seq

/-- The four counters: cleared by a successful CONNECT, each stepped (wrapping) at the edge its rule names, and changed by
nothing else (R26 to R30). -/
def Obligations.CountersCountTheirEdgesOnly : Prop :=
  ∀ s t : State, s.sample.rst = false → step s = .next t →
    if s.state = .openWait ∧ s.sample.chanDone = true ∧ s.sample.chanCode = 0 then
      t.cntSent = 0 ∧ t.cntGood = 0 ∧ t.cntBad = 0 ∧ t.cntTimeout = 0
    else
      t.cntSent = (if s.state = .tx ∧ t.state = .idle ∧ t.rkind = .ok then s.cntSent + 1 else s.cntSent) ∧
      t.cntGood = (if s.state = .check ∧ t.rkind = .data then s.cntGood + 1 else s.cntGood) ∧
      t.cntBad = (if s.state = .check ∧ t.rkind = .badFrame then s.cntBad + 1 else s.cntBad) ∧
      t.cntTimeout =
        (if (s.state = .hunt ∨ s.state = .len ∨ s.state = .body) ∧ s.dl.toNat ≤ s.elapsed.toNat
         then s.cntTimeout + 1 else s.cntTimeout)

/-- RESULT and RKIND are written only where a command completes; RXBUF, RX_SEQ and FAIL_REASON only at a CHECK edge; DL and
MAXSZ only where a RECEIVE begins; ELAPSED only there and where HUNT, LEN or BODY has not met its deadline; FRAMEBUF only where a
byte is consumed, RXLEN only where LEN consumes one, RXCOUNT only where a byte is consumed or a RECEIVE begins; TXFRAME and TXLEN
only where a SEND begins, TXIDX only there and where TX hands over a byte (R32 to R37, R40 to R42). The model's own field
`codecOut` is written by no edge (log 9). -/
def Obligations.EachElementIsWrittenAtItsOwnEdgesOnly : Prop :=
  ∀ s t : State, s.sample.rst = false → step s = .next t →
    (t.done = false → t.result = s.result ∧ t.rkind = s.rkind) ∧
    (s.state ≠ .check → t.rxbuf = s.rxbuf ∧ t.rxSeq = s.rxSeq ∧ t.failReason = s.failReason) ∧
    (¬ (s.state = .idle ∧ t.state = .hunt) → t.dl = s.dl ∧ t.maxsz = s.maxsz) ∧
    (¬ (s.state = .idle ∧ t.state = .hunt) →
      ¬ ((s.state = .hunt ∨ s.state = .len ∨ s.state = .body) ∧ s.elapsed.toNat < s.dl.toNat) → t.elapsed = s.elapsed) ∧
    (¬ (s.rxReady = true ∧ s.sample.rxValid = true ∧ s.sample.rxErr = false) →
      t.framebuf = s.framebuf ∧ t.rxlen = s.rxlen ∧ (¬ (s.state = .idle ∧ t.state = .hunt) → t.rxcount = s.rxcount)) ∧
    (s.state ≠ .len → t.rxlen = s.rxlen) ∧
    (¬ (s.state = .idle ∧ t.state = .tx) → t.txframe = s.txframe ∧ t.txlen = s.txlen ∧
      (¬ (s.state = .tx ∧ s.sample.txAck = true ∧ s.sample.txFull = false) → t.txidx = s.txidx)) ∧
    t.codecOut = s.codecOut

/-! ## Whole commands -/

/-- A whole SEND against a channel that takes a byte at every edge: it stays in TX after its accept edge and each of the
next len + 4 edges, and at edge len + 5 completes OK, 0 with exactly the frame of TXBUF[0..len-1] and SEQ added to the
wire, CNT_SENT counted and SEQ advanced (R187 to R191, R332). The wire is the model's record of the bytes taken (log 7). -/
def Obligations.SendPutsItsFrameOnTheWire : Prop :=
  ∀ (s : State) (p : Ports) (ps rest : List Ports) (d : Bool) (l m : Byte),
    s.state = .idle → s.connected = true → l.toNat ≤ 250 →
    s.inputs = p :: ps ++ rest → p.offersCmd (.send d l m) →
    ps.length = l.toNat + 5 → (∀ q ∈ ps, q.takesByte) →
    (∀ k, 1 ≤ k → k ≤ l.toNat + 5 → ∃ t : State, Host.Core.run Sys2Proof.core k s = .next t ∧ t.state = .tx) ∧
    ∃ t : State, Host.Core.run Sys2Proof.core (l.toNat + 6) s = .next t ∧
      t.state = .idle ∧ t.done = true ∧ t.result = 0x0000 ∧ t.rkind = .ok ∧
      t.txWire = s.txWire ++ codecBuild Config.params (s.payload l.toNat) s.seq ∧
      t.cntSent = s.cntSent + 1 ∧ t.seq = s.seq + 1 ∧ t.connected = true ∧ t.inputs = rest

/-- A whole RECEIVE of a good frame behind bytes that are no start marker, one byte offered at every edge, all within the
deadline: it completes at edge g + L + 1 with DATA and the count, the payload truncated to MAX in RXBUF, the sequence byte
in RX_SEQ, CNT_GOOD counted, and every byte offered consumed once, in order (R211 to R220, R225, R227, R230, R333). The
consumed bytes are the model's record of the wire (log 7). -/
def Obligations.ReceiveReturnsTheFirstGoodFrame : Prop :=
  ∀ (s : State) (p pc : Ports) (ps rest : List Ports) (g f : List Byte) (d : Bool) (l m : Byte),
    s.state = .idle → s.connected = true →
    s.inputs = p :: ps ++ pc :: rest → p.offersCmd (.receive d l m) →
    List.Forall₂ (fun b q => Ports.offersByte b q) (g ++ f) ps → pc.rst = false →
    (∀ b ∈ g, b ≠ Config.startMarker) → f.length ≤ 255 → validateReason Config.params f = .none →
    g.length + f.length ≤ s.deadline.toNat →
    ∃ t : State, Host.Core.run Sys2Proof.core (g.length + f.length + 2) s = .next t ∧
      t.state = .idle ∧ t.done = true ∧ t.rkind = .data ∧
      t.result = BitVec.ofNat 16 (min (f.length - 5) m.toNat) ∧
      (∀ i, t.rxbufByte i = if i < min (f.length - 5) m.toNat then f.getD (3 + i) 0 else s.rxbufByte i) ∧
      t.rxSeq = f.getD 2 0 ∧ t.failReason = .none ∧ t.cntGood = s.cntGood + 1 ∧
      t.rxWire = s.rxWire ++ g ++ f ∧ t.inputs = rest

/-- A whole RECEIVE on a silent channel with a tick at every edge: with DEADLINE = D it times out at edge D + 1, whatever
that edge's sample offers, with TIMEOUT, -4, the timeout counted, no byte consumed (log 7's record of the wire) and ELAPSED = D
(R211 to R213, R227). -/
def Obligations.ReceiveOnASilentChannelTimesOut : Prop :=
  ∀ (s : State) (p pc : Ports) (ps rest : List Ports) (d : Bool) (l m : Byte),
    s.state = .idle → s.connected = true →
    s.inputs = p :: ps ++ pc :: rest → p.offersCmd (.receive d l m) →
    ps.length = s.deadline.toNat → (∀ q ∈ ps, q.silentTick) → pc.rst = false →
    ∃ t : State, Host.Core.run Sys2Proof.core (s.deadline.toNat + 2) s = .next t ∧
      t.state = .idle ∧ t.done = true ∧ t.rkind = .timeout ∧ t.result = 0xFFFC ∧
      t.cntTimeout = s.cntTimeout + 1 ∧ t.rxWire = s.rxWire ∧ t.elapsed = s.deadline ∧ t.inputs = rest
end

