-- ==== Sys2Proof/Laws/Decode.lean ====
section
/-! SUPPORT. The fields of a packed command word (30_encoding.md rule R100), one lemma per field. -/

namespace Sys2Proof

/-- Concatenation as a number (R8). -/
theorem toNat_concat {v w : Nat} (a : BitVec v) (b : BitVec w) : (a ++ b).toNat = a.toNat * 2 ^ w + b.toNat := by
  rw [BitVec.toNat_append, ← Nat.shiftLeft_add_eq_or_of_lt b.isLt, Nat.shiftLeft_eq]

/-- The command word as a number (R100). -/
theorem packCmd_toNat (op : BitVec 3) (dbg : Bool) (len maxsz : Byte) :
    (packCmd op dbg len maxsz).toNat = maxsz.toNat * 4096 + len.toNat * 16 + dbg.toNat * 8 + op.toNat := by
  show (maxsz ++ len ++ BitVec.ofBool dbg ++ op).toNat = _
  simp only [toNat_concat, BitVec.toNat_ofBool]
  omega

/-- OP as a number (R101). -/
theorem cmdOp_toNat (w : CmdWord) : (cmdOp w).toNat = w.toNat % 8 := by
  simp [cmdOp]

/-- DBG as a number (R102). -/
theorem cmdDbg_toNat (w : CmdWord) : (cmdDbg w).toNat = w.toNat / 8 % 2 := by
  simp [cmdDbg, BitVec.getLsbD, Nat.testBit_eq_decide_div_mod_eq]
  rcases Nat.mod_two_eq_zero_or_one (w.toNat / 8) with h | h <;> simp [h]

/-- LEN as a number (R103). -/
theorem cmdLen_toNat (w : CmdWord) : (cmdLen w).toNat = w.toNat / 16 % 256 := by
  simp [cmdLen, Nat.shiftRight_eq_div_pow]

/-- MAX as a number (R104). -/
theorem cmdMax_toNat (w : CmdWord) : (cmdMax w).toNat = w.toNat / 4096 % 256 := by
  simp [cmdMax, Nat.shiftRight_eq_div_pow]

@[simp] theorem cmdOp_packCmd (op : BitVec 3) (dbg : Bool) (len maxsz : Byte) : cmdOp (packCmd op dbg len maxsz) = op := by
  apply BitVec.eq_of_toNat_eq
  rw [cmdOp_toNat, packCmd_toNat]
  have := op.isLt
  omega

@[simp] theorem cmdDbg_packCmd (op : BitVec 3) (dbg : Bool) (len maxsz : Byte) : cmdDbg (packCmd op dbg len maxsz) = dbg := by
  have h := cmdDbg_toNat (packCmd op dbg len maxsz)
  rw [packCmd_toNat] at h
  have := op.isLt
  have hd := Bool.toNat_lt dbg
  have he : (cmdDbg (packCmd op dbg len maxsz)).toNat = dbg.toNat := by omega
  revert he
  cases cmdDbg (packCmd op dbg len maxsz) <;> cases dbg <;> simp

@[simp] theorem cmdLen_packCmd (op : BitVec 3) (dbg : Bool) (len maxsz : Byte) : cmdLen (packCmd op dbg len maxsz) = len := by
  apply BitVec.eq_of_toNat_eq
  rw [cmdLen_toNat, packCmd_toNat]
  have := op.isLt
  have := len.isLt
  have hd := Bool.toNat_lt dbg
  omega

@[simp] theorem cmdMax_packCmd (op : BitVec 3) (dbg : Bool) (len maxsz : Byte) : cmdMax (packCmd op dbg len maxsz) = maxsz := by
  apply BitVec.eq_of_toNat_eq
  rw [cmdMax_toNat, packCmd_toNat]
  have := op.isLt
  have := len.isLt
  have := maxsz.isLt
  have hd := Bool.toNat_lt dbg
  omega

/-- A command word is made of its four fields: no bit is left over (R100). -/
theorem packCmd_fields (w : CmdWord) : packCmd (cmdOp w) (cmdDbg w) (cmdLen w) (cmdMax w) = w := by
  apply BitVec.eq_of_toNat_eq
  rw [packCmd_toNat, cmdOp_toNat, cmdDbg_toNat, cmdLen_toNat, cmdMax_toNat]
  have := w.isLt
  omega

/-- The eight values of OP (R105). -/
theorem cmdOp_cases (w : CmdWord) : cmdOp w = 0 ∨ cmdOp w = 1 ∨ cmdOp w = 2 ∨ cmdOp w = 3 ∨ cmdOp w = 4 ∨ cmdOp w = 5 ∨
    cmdOp w = 6 ∨ cmdOp w = 7 := by
  generalize cmdOp w = op
  revert op
  decide

end Sys2Proof
end

