-- ==== Sys2Proof/Laws/State.lean ====
section
/-! SUPPORT. What each shared register operation does to each field of the state, one lemma per field, so that no later
proof unfolds a record update. A byte reader reads through every operation that leaves its buffer alone. -/

namespace Sys2Proof.Machine

@[simp] theorem State.complete_state (s : State) (k : RKind) (v : Word16) : (s.complete k v).state = .idle := rfl
@[simp] theorem State.complete_connected (s : State) (k : RKind) (v : Word16) : (s.complete k v).connected = s.connected := rfl
@[simp] theorem State.complete_seq (s : State) (k : RKind) (v : Word16) : (s.complete k v).seq = s.seq := rfl
@[simp] theorem State.complete_cntSent (s : State) (k : RKind) (v : Word16) : (s.complete k v).cntSent = s.cntSent := rfl
@[simp] theorem State.complete_cntGood (s : State) (k : RKind) (v : Word16) : (s.complete k v).cntGood = s.cntGood := rfl
@[simp] theorem State.complete_cntBad (s : State) (k : RKind) (v : Word16) : (s.complete k v).cntBad = s.cntBad := rfl
@[simp] theorem State.complete_cntTimeout (s : State) (k : RKind) (v : Word16) : (s.complete k v).cntTimeout = s.cntTimeout := rfl
@[simp] theorem State.complete_deadline (s : State) (k : RKind) (v : Word16) : (s.complete k v).deadline = s.deadline := rfl
@[simp] theorem State.complete_dl (s : State) (k : RKind) (v : Word16) : (s.complete k v).dl = s.dl := rfl
@[simp] theorem State.complete_elapsed (s : State) (k : RKind) (v : Word16) : (s.complete k v).elapsed = s.elapsed := rfl
@[simp] theorem State.complete_result (s : State) (k : RKind) (v : Word16) : (s.complete k v).result = v := rfl
@[simp] theorem State.complete_rkind (s : State) (k : RKind) (v : Word16) : (s.complete k v).rkind = k := rfl
@[simp] theorem State.complete_rxSeq (s : State) (k : RKind) (v : Word16) : (s.complete k v).rxSeq = s.rxSeq := rfl
@[simp] theorem State.complete_failReason (s : State) (k : RKind) (v : Word16) : (s.complete k v).failReason = s.failReason := rfl
@[simp] theorem State.complete_done (s : State) (k : RKind) (v : Word16) : (s.complete k v).done = true := rfl
@[simp] theorem State.complete_txbuf (s : State) (k : RKind) (v : Word16) : (s.complete k v).txbuf = s.txbuf := rfl
@[simp] theorem State.complete_rxbuf (s : State) (k : RKind) (v : Word16) : (s.complete k v).rxbuf = s.rxbuf := rfl
@[simp] theorem State.complete_txframe (s : State) (k : RKind) (v : Word16) : (s.complete k v).txframe = s.txframe := rfl
@[simp] theorem State.complete_txlen (s : State) (k : RKind) (v : Word16) : (s.complete k v).txlen = s.txlen := rfl
@[simp] theorem State.complete_txidx (s : State) (k : RKind) (v : Word16) : (s.complete k v).txidx = s.txidx := rfl
@[simp] theorem State.complete_framebuf (s : State) (k : RKind) (v : Word16) : (s.complete k v).framebuf = s.framebuf := rfl
@[simp] theorem State.complete_rxcount (s : State) (k : RKind) (v : Word16) : (s.complete k v).rxcount = s.rxcount := rfl
@[simp] theorem State.complete_rxlen (s : State) (k : RKind) (v : Word16) : (s.complete k v).rxlen = s.rxlen := rfl
@[simp] theorem State.complete_maxsz (s : State) (k : RKind) (v : Word16) : (s.complete k v).maxsz = s.maxsz := rfl
@[simp] theorem State.complete_txWire (s : State) (k : RKind) (v : Word16) : (s.complete k v).txWire = s.txWire := rfl
@[simp] theorem State.complete_rxWire (s : State) (k : RKind) (v : Word16) : (s.complete k v).rxWire = s.rxWire := rfl
@[simp] theorem State.complete_inputs (s : State) (k : RKind) (v : Word16) : (s.complete k v).inputs = s.inputs := rfl
@[simp] theorem State.complete_edge (s : State) (k : RKind) (v : Word16) : (s.complete k v).edge = s.edge := rfl
@[simp] theorem State.complete_epoch (s : State) (k : RKind) (v : Word16) : (s.complete k v).epoch = s.epoch := rfl
@[simp] theorem State.complete_rdata (s : State) (k : RKind) (v : Word16) : (s.complete k v).rdata = s.rdata := rfl
@[simp] theorem State.complete_codecOut (s : State) (k : RKind) (v : Word16) : (s.complete k v).codecOut = s.codecOut := rfl
@[simp] theorem State.complete_txbufByte (s : State) (k : RKind) (v : Word16) (j : Nat) : (s.complete k v).txbufByte j = s.txbufByte j := rfl
@[simp] theorem State.complete_rxbufByte (s : State) (k : RKind) (v : Word16) (j : Nat) : (s.complete k v).rxbufByte j = s.rxbufByte j := rfl
@[simp] theorem State.complete_txframeByte (s : State) (k : RKind) (v : Word16) (j : Nat) : (s.complete k v).txframeByte j = s.txframeByte j := rfl
@[simp] theorem State.complete_framebufByte (s : State) (k : RKind) (v : Word16) (j : Nat) : (s.complete k v).framebufByte j = s.framebufByte j := rfl

@[simp] theorem State.completeKeep_state (s : State) (k : RKind) : (s.completeKeep k).state = .idle := rfl
@[simp] theorem State.completeKeep_connected (s : State) (k : RKind) : (s.completeKeep k).connected = s.connected := rfl
@[simp] theorem State.completeKeep_seq (s : State) (k : RKind) : (s.completeKeep k).seq = s.seq := rfl
@[simp] theorem State.completeKeep_cntSent (s : State) (k : RKind) : (s.completeKeep k).cntSent = s.cntSent := rfl
@[simp] theorem State.completeKeep_cntGood (s : State) (k : RKind) : (s.completeKeep k).cntGood = s.cntGood := rfl
@[simp] theorem State.completeKeep_cntBad (s : State) (k : RKind) : (s.completeKeep k).cntBad = s.cntBad := rfl
@[simp] theorem State.completeKeep_cntTimeout (s : State) (k : RKind) : (s.completeKeep k).cntTimeout = s.cntTimeout := rfl
@[simp] theorem State.completeKeep_deadline (s : State) (k : RKind) : (s.completeKeep k).deadline = s.deadline := rfl
@[simp] theorem State.completeKeep_dl (s : State) (k : RKind) : (s.completeKeep k).dl = s.dl := rfl
@[simp] theorem State.completeKeep_elapsed (s : State) (k : RKind) : (s.completeKeep k).elapsed = s.elapsed := rfl
@[simp] theorem State.completeKeep_result (s : State) (k : RKind) : (s.completeKeep k).result = s.result := rfl
@[simp] theorem State.completeKeep_rkind (s : State) (k : RKind) : (s.completeKeep k).rkind = k := rfl
@[simp] theorem State.completeKeep_rxSeq (s : State) (k : RKind) : (s.completeKeep k).rxSeq = s.rxSeq := rfl
@[simp] theorem State.completeKeep_failReason (s : State) (k : RKind) : (s.completeKeep k).failReason = s.failReason := rfl
@[simp] theorem State.completeKeep_done (s : State) (k : RKind) : (s.completeKeep k).done = true := rfl
@[simp] theorem State.completeKeep_txbuf (s : State) (k : RKind) : (s.completeKeep k).txbuf = s.txbuf := rfl
@[simp] theorem State.completeKeep_rxbuf (s : State) (k : RKind) : (s.completeKeep k).rxbuf = s.rxbuf := rfl
@[simp] theorem State.completeKeep_txframe (s : State) (k : RKind) : (s.completeKeep k).txframe = s.txframe := rfl
@[simp] theorem State.completeKeep_txlen (s : State) (k : RKind) : (s.completeKeep k).txlen = s.txlen := rfl
@[simp] theorem State.completeKeep_txidx (s : State) (k : RKind) : (s.completeKeep k).txidx = s.txidx := rfl
@[simp] theorem State.completeKeep_framebuf (s : State) (k : RKind) : (s.completeKeep k).framebuf = s.framebuf := rfl
@[simp] theorem State.completeKeep_rxcount (s : State) (k : RKind) : (s.completeKeep k).rxcount = s.rxcount := rfl
@[simp] theorem State.completeKeep_rxlen (s : State) (k : RKind) : (s.completeKeep k).rxlen = s.rxlen := rfl
@[simp] theorem State.completeKeep_maxsz (s : State) (k : RKind) : (s.completeKeep k).maxsz = s.maxsz := rfl
@[simp] theorem State.completeKeep_txWire (s : State) (k : RKind) : (s.completeKeep k).txWire = s.txWire := rfl
@[simp] theorem State.completeKeep_rxWire (s : State) (k : RKind) : (s.completeKeep k).rxWire = s.rxWire := rfl
@[simp] theorem State.completeKeep_inputs (s : State) (k : RKind) : (s.completeKeep k).inputs = s.inputs := rfl
@[simp] theorem State.completeKeep_edge (s : State) (k : RKind) : (s.completeKeep k).edge = s.edge := rfl
@[simp] theorem State.completeKeep_epoch (s : State) (k : RKind) : (s.completeKeep k).epoch = s.epoch := rfl
@[simp] theorem State.completeKeep_rdata (s : State) (k : RKind) : (s.completeKeep k).rdata = s.rdata := rfl
@[simp] theorem State.completeKeep_codecOut (s : State) (k : RKind) : (s.completeKeep k).codecOut = s.codecOut := rfl
@[simp] theorem State.completeKeep_txbufByte (s : State) (k : RKind) (j : Nat) : (s.completeKeep k).txbufByte j = s.txbufByte j := rfl
@[simp] theorem State.completeKeep_rxbufByte (s : State) (k : RKind) (j : Nat) : (s.completeKeep k).rxbufByte j = s.rxbufByte j := rfl
@[simp] theorem State.completeKeep_txframeByte (s : State) (k : RKind) (j : Nat) : (s.completeKeep k).txframeByte j = s.txframeByte j := rfl
@[simp] theorem State.completeKeep_framebufByte (s : State) (k : RKind) (j : Nat) : (s.completeKeep k).framebufByte j = s.framebufByte j := rfl

@[simp] theorem State.finish_state (s : State) : (s.finish).state = .idle := rfl
@[simp] theorem State.finish_connected (s : State) : (s.finish).connected = s.connected := rfl
@[simp] theorem State.finish_seq (s : State) : (s.finish).seq = s.seq := rfl
@[simp] theorem State.finish_cntSent (s : State) : (s.finish).cntSent = s.cntSent := rfl
@[simp] theorem State.finish_cntGood (s : State) : (s.finish).cntGood = s.cntGood := rfl
@[simp] theorem State.finish_cntBad (s : State) : (s.finish).cntBad = s.cntBad := rfl
@[simp] theorem State.finish_cntTimeout (s : State) : (s.finish).cntTimeout = s.cntTimeout := rfl
@[simp] theorem State.finish_deadline (s : State) : (s.finish).deadline = s.deadline := rfl
@[simp] theorem State.finish_dl (s : State) : (s.finish).dl = s.dl := rfl
@[simp] theorem State.finish_elapsed (s : State) : (s.finish).elapsed = s.elapsed := rfl
@[simp] theorem State.finish_result (s : State) : (s.finish).result = s.result := rfl
@[simp] theorem State.finish_rkind (s : State) : (s.finish).rkind = s.rkind := rfl
@[simp] theorem State.finish_rxSeq (s : State) : (s.finish).rxSeq = s.rxSeq := rfl
@[simp] theorem State.finish_failReason (s : State) : (s.finish).failReason = s.failReason := rfl
@[simp] theorem State.finish_done (s : State) : (s.finish).done = true := rfl
@[simp] theorem State.finish_txbuf (s : State) : (s.finish).txbuf = s.txbuf := rfl
@[simp] theorem State.finish_rxbuf (s : State) : (s.finish).rxbuf = s.rxbuf := rfl
@[simp] theorem State.finish_txframe (s : State) : (s.finish).txframe = s.txframe := rfl
@[simp] theorem State.finish_txlen (s : State) : (s.finish).txlen = s.txlen := rfl
@[simp] theorem State.finish_txidx (s : State) : (s.finish).txidx = s.txidx := rfl
@[simp] theorem State.finish_framebuf (s : State) : (s.finish).framebuf = s.framebuf := rfl
@[simp] theorem State.finish_rxcount (s : State) : (s.finish).rxcount = s.rxcount := rfl
@[simp] theorem State.finish_rxlen (s : State) : (s.finish).rxlen = s.rxlen := rfl
@[simp] theorem State.finish_maxsz (s : State) : (s.finish).maxsz = s.maxsz := rfl
@[simp] theorem State.finish_txWire (s : State) : (s.finish).txWire = s.txWire := rfl
@[simp] theorem State.finish_rxWire (s : State) : (s.finish).rxWire = s.rxWire := rfl
@[simp] theorem State.finish_inputs (s : State) : (s.finish).inputs = s.inputs := rfl
@[simp] theorem State.finish_edge (s : State) : (s.finish).edge = s.edge := rfl
@[simp] theorem State.finish_epoch (s : State) : (s.finish).epoch = s.epoch := rfl
@[simp] theorem State.finish_rdata (s : State) : (s.finish).rdata = s.rdata := rfl
@[simp] theorem State.finish_codecOut (s : State) : (s.finish).codecOut = s.codecOut := rfl
@[simp] theorem State.finish_txbufByte (s : State) (j : Nat) : (s.finish).txbufByte j = s.txbufByte j := rfl
@[simp] theorem State.finish_rxbufByte (s : State) (j : Nat) : (s.finish).rxbufByte j = s.rxbufByte j := rfl
@[simp] theorem State.finish_txframeByte (s : State) (j : Nat) : (s.finish).txframeByte j = s.txframeByte j := rfl
@[simp] theorem State.finish_framebufByte (s : State) (j : Nat) : (s.finish).framebufByte j = s.framebufByte j := rfl

@[simp] theorem State.goto_state (s : State) (f : Fsm) : (s.goto f).state = f := rfl
@[simp] theorem State.goto_connected (s : State) (f : Fsm) : (s.goto f).connected = s.connected := rfl
@[simp] theorem State.goto_seq (s : State) (f : Fsm) : (s.goto f).seq = s.seq := rfl
@[simp] theorem State.goto_cntSent (s : State) (f : Fsm) : (s.goto f).cntSent = s.cntSent := rfl
@[simp] theorem State.goto_cntGood (s : State) (f : Fsm) : (s.goto f).cntGood = s.cntGood := rfl
@[simp] theorem State.goto_cntBad (s : State) (f : Fsm) : (s.goto f).cntBad = s.cntBad := rfl
@[simp] theorem State.goto_cntTimeout (s : State) (f : Fsm) : (s.goto f).cntTimeout = s.cntTimeout := rfl
@[simp] theorem State.goto_deadline (s : State) (f : Fsm) : (s.goto f).deadline = s.deadline := rfl
@[simp] theorem State.goto_dl (s : State) (f : Fsm) : (s.goto f).dl = s.dl := rfl
@[simp] theorem State.goto_elapsed (s : State) (f : Fsm) : (s.goto f).elapsed = s.elapsed := rfl
@[simp] theorem State.goto_result (s : State) (f : Fsm) : (s.goto f).result = s.result := rfl
@[simp] theorem State.goto_rkind (s : State) (f : Fsm) : (s.goto f).rkind = s.rkind := rfl
@[simp] theorem State.goto_rxSeq (s : State) (f : Fsm) : (s.goto f).rxSeq = s.rxSeq := rfl
@[simp] theorem State.goto_failReason (s : State) (f : Fsm) : (s.goto f).failReason = s.failReason := rfl
@[simp] theorem State.goto_done (s : State) (f : Fsm) : (s.goto f).done = false := rfl
@[simp] theorem State.goto_txbuf (s : State) (f : Fsm) : (s.goto f).txbuf = s.txbuf := rfl
@[simp] theorem State.goto_rxbuf (s : State) (f : Fsm) : (s.goto f).rxbuf = s.rxbuf := rfl
@[simp] theorem State.goto_txframe (s : State) (f : Fsm) : (s.goto f).txframe = s.txframe := rfl
@[simp] theorem State.goto_txlen (s : State) (f : Fsm) : (s.goto f).txlen = s.txlen := rfl
@[simp] theorem State.goto_txidx (s : State) (f : Fsm) : (s.goto f).txidx = s.txidx := rfl
@[simp] theorem State.goto_framebuf (s : State) (f : Fsm) : (s.goto f).framebuf = s.framebuf := rfl
@[simp] theorem State.goto_rxcount (s : State) (f : Fsm) : (s.goto f).rxcount = s.rxcount := rfl
@[simp] theorem State.goto_rxlen (s : State) (f : Fsm) : (s.goto f).rxlen = s.rxlen := rfl
@[simp] theorem State.goto_maxsz (s : State) (f : Fsm) : (s.goto f).maxsz = s.maxsz := rfl
@[simp] theorem State.goto_txWire (s : State) (f : Fsm) : (s.goto f).txWire = s.txWire := rfl
@[simp] theorem State.goto_rxWire (s : State) (f : Fsm) : (s.goto f).rxWire = s.rxWire := rfl
@[simp] theorem State.goto_inputs (s : State) (f : Fsm) : (s.goto f).inputs = s.inputs := rfl
@[simp] theorem State.goto_edge (s : State) (f : Fsm) : (s.goto f).edge = s.edge := rfl
@[simp] theorem State.goto_epoch (s : State) (f : Fsm) : (s.goto f).epoch = s.epoch := rfl
@[simp] theorem State.goto_rdata (s : State) (f : Fsm) : (s.goto f).rdata = s.rdata := rfl
@[simp] theorem State.goto_codecOut (s : State) (f : Fsm) : (s.goto f).codecOut = s.codecOut := rfl
@[simp] theorem State.goto_txbufByte (s : State) (f : Fsm) (j : Nat) : (s.goto f).txbufByte j = s.txbufByte j := rfl
@[simp] theorem State.goto_rxbufByte (s : State) (f : Fsm) (j : Nat) : (s.goto f).rxbufByte j = s.rxbufByte j := rfl
@[simp] theorem State.goto_txframeByte (s : State) (f : Fsm) (j : Nat) : (s.goto f).txframeByte j = s.txframeByte j := rfl
@[simp] theorem State.goto_framebufByte (s : State) (f : Fsm) (j : Nat) : (s.goto f).framebufByte j = s.framebufByte j := rfl

@[simp] theorem State.stay_state (s : State) : (s.stay).state = s.state := rfl
@[simp] theorem State.stay_connected (s : State) : (s.stay).connected = s.connected := rfl
@[simp] theorem State.stay_seq (s : State) : (s.stay).seq = s.seq := rfl
@[simp] theorem State.stay_cntSent (s : State) : (s.stay).cntSent = s.cntSent := rfl
@[simp] theorem State.stay_cntGood (s : State) : (s.stay).cntGood = s.cntGood := rfl
@[simp] theorem State.stay_cntBad (s : State) : (s.stay).cntBad = s.cntBad := rfl
@[simp] theorem State.stay_cntTimeout (s : State) : (s.stay).cntTimeout = s.cntTimeout := rfl
@[simp] theorem State.stay_deadline (s : State) : (s.stay).deadline = s.deadline := rfl
@[simp] theorem State.stay_dl (s : State) : (s.stay).dl = s.dl := rfl
@[simp] theorem State.stay_elapsed (s : State) : (s.stay).elapsed = s.elapsed := rfl
@[simp] theorem State.stay_result (s : State) : (s.stay).result = s.result := rfl
@[simp] theorem State.stay_rkind (s : State) : (s.stay).rkind = s.rkind := rfl
@[simp] theorem State.stay_rxSeq (s : State) : (s.stay).rxSeq = s.rxSeq := rfl
@[simp] theorem State.stay_failReason (s : State) : (s.stay).failReason = s.failReason := rfl
@[simp] theorem State.stay_done (s : State) : (s.stay).done = false := rfl
@[simp] theorem State.stay_txbuf (s : State) : (s.stay).txbuf = s.txbuf := rfl
@[simp] theorem State.stay_rxbuf (s : State) : (s.stay).rxbuf = s.rxbuf := rfl
@[simp] theorem State.stay_txframe (s : State) : (s.stay).txframe = s.txframe := rfl
@[simp] theorem State.stay_txlen (s : State) : (s.stay).txlen = s.txlen := rfl
@[simp] theorem State.stay_txidx (s : State) : (s.stay).txidx = s.txidx := rfl
@[simp] theorem State.stay_framebuf (s : State) : (s.stay).framebuf = s.framebuf := rfl
@[simp] theorem State.stay_rxcount (s : State) : (s.stay).rxcount = s.rxcount := rfl
@[simp] theorem State.stay_rxlen (s : State) : (s.stay).rxlen = s.rxlen := rfl
@[simp] theorem State.stay_maxsz (s : State) : (s.stay).maxsz = s.maxsz := rfl
@[simp] theorem State.stay_txWire (s : State) : (s.stay).txWire = s.txWire := rfl
@[simp] theorem State.stay_rxWire (s : State) : (s.stay).rxWire = s.rxWire := rfl
@[simp] theorem State.stay_inputs (s : State) : (s.stay).inputs = s.inputs := rfl
@[simp] theorem State.stay_edge (s : State) : (s.stay).edge = s.edge := rfl
@[simp] theorem State.stay_epoch (s : State) : (s.stay).epoch = s.epoch := rfl
@[simp] theorem State.stay_rdata (s : State) : (s.stay).rdata = s.rdata := rfl
@[simp] theorem State.stay_codecOut (s : State) : (s.stay).codecOut = s.codecOut := rfl
@[simp] theorem State.stay_txbufByte (s : State) (j : Nat) : (s.stay).txbufByte j = s.txbufByte j := rfl
@[simp] theorem State.stay_rxbufByte (s : State) (j : Nat) : (s.stay).rxbufByte j = s.rxbufByte j := rfl
@[simp] theorem State.stay_txframeByte (s : State) (j : Nat) : (s.stay).txframeByte j = s.txframeByte j := rfl
@[simp] theorem State.stay_framebufByte (s : State) (j : Nat) : (s.stay).framebufByte j = s.framebufByte j := rfl

@[simp] theorem State.openSession_state (s : State) : (s.openSession).state = s.state := rfl
@[simp] theorem State.openSession_connected (s : State) : (s.openSession).connected = true := rfl
@[simp] theorem State.openSession_seq (s : State) : (s.openSession).seq = 0 := rfl
@[simp] theorem State.openSession_cntSent (s : State) : (s.openSession).cntSent = 0 := rfl
@[simp] theorem State.openSession_cntGood (s : State) : (s.openSession).cntGood = 0 := rfl
@[simp] theorem State.openSession_cntBad (s : State) : (s.openSession).cntBad = 0 := rfl
@[simp] theorem State.openSession_cntTimeout (s : State) : (s.openSession).cntTimeout = 0 := rfl
@[simp] theorem State.openSession_deadline (s : State) : (s.openSession).deadline = s.deadline := rfl
@[simp] theorem State.openSession_dl (s : State) : (s.openSession).dl = s.dl := rfl
@[simp] theorem State.openSession_elapsed (s : State) : (s.openSession).elapsed = s.elapsed := rfl
@[simp] theorem State.openSession_result (s : State) : (s.openSession).result = s.result := rfl
@[simp] theorem State.openSession_rkind (s : State) : (s.openSession).rkind = s.rkind := rfl
@[simp] theorem State.openSession_rxSeq (s : State) : (s.openSession).rxSeq = s.rxSeq := rfl
@[simp] theorem State.openSession_failReason (s : State) : (s.openSession).failReason = s.failReason := rfl
@[simp] theorem State.openSession_done (s : State) : (s.openSession).done = s.done := rfl
@[simp] theorem State.openSession_txbuf (s : State) : (s.openSession).txbuf = s.txbuf := rfl
@[simp] theorem State.openSession_rxbuf (s : State) : (s.openSession).rxbuf = s.rxbuf := rfl
@[simp] theorem State.openSession_txframe (s : State) : (s.openSession).txframe = s.txframe := rfl
@[simp] theorem State.openSession_txlen (s : State) : (s.openSession).txlen = s.txlen := rfl
@[simp] theorem State.openSession_txidx (s : State) : (s.openSession).txidx = s.txidx := rfl
@[simp] theorem State.openSession_framebuf (s : State) : (s.openSession).framebuf = s.framebuf := rfl
@[simp] theorem State.openSession_rxcount (s : State) : (s.openSession).rxcount = s.rxcount := rfl
@[simp] theorem State.openSession_rxlen (s : State) : (s.openSession).rxlen = s.rxlen := rfl
@[simp] theorem State.openSession_maxsz (s : State) : (s.openSession).maxsz = s.maxsz := rfl
@[simp] theorem State.openSession_txWire (s : State) : (s.openSession).txWire = s.txWire := rfl
@[simp] theorem State.openSession_rxWire (s : State) : (s.openSession).rxWire = s.rxWire := rfl
@[simp] theorem State.openSession_inputs (s : State) : (s.openSession).inputs = s.inputs := rfl
@[simp] theorem State.openSession_edge (s : State) : (s.openSession).edge = s.edge := rfl
@[simp] theorem State.openSession_epoch (s : State) : (s.openSession).epoch = s.epoch := rfl
@[simp] theorem State.openSession_rdata (s : State) : (s.openSession).rdata = s.rdata := rfl
@[simp] theorem State.openSession_codecOut (s : State) : (s.openSession).codecOut = s.codecOut := rfl
@[simp] theorem State.openSession_txbufByte (s : State) (j : Nat) : (s.openSession).txbufByte j = s.txbufByte j := rfl
@[simp] theorem State.openSession_rxbufByte (s : State) (j : Nat) : (s.openSession).rxbufByte j = s.rxbufByte j := rfl
@[simp] theorem State.openSession_txframeByte (s : State) (j : Nat) : (s.openSession).txframeByte j = s.txframeByte j := rfl
@[simp] theorem State.openSession_framebufByte (s : State) (j : Nat) : (s.openSession).framebufByte j = s.framebufByte j := rfl

@[simp] theorem State.putByte_state (s : State) : (s.putByte).state = s.state := rfl
@[simp] theorem State.putByte_connected (s : State) : (s.putByte).connected = s.connected := rfl
@[simp] theorem State.putByte_seq (s : State) : (s.putByte).seq = s.seq := rfl
@[simp] theorem State.putByte_cntSent (s : State) : (s.putByte).cntSent = s.cntSent := rfl
@[simp] theorem State.putByte_cntGood (s : State) : (s.putByte).cntGood = s.cntGood := rfl
@[simp] theorem State.putByte_cntBad (s : State) : (s.putByte).cntBad = s.cntBad := rfl
@[simp] theorem State.putByte_cntTimeout (s : State) : (s.putByte).cntTimeout = s.cntTimeout := rfl
@[simp] theorem State.putByte_deadline (s : State) : (s.putByte).deadline = s.deadline := rfl
@[simp] theorem State.putByte_dl (s : State) : (s.putByte).dl = s.dl := rfl
@[simp] theorem State.putByte_elapsed (s : State) : (s.putByte).elapsed = s.elapsed := rfl
@[simp] theorem State.putByte_result (s : State) : (s.putByte).result = s.result := rfl
@[simp] theorem State.putByte_rkind (s : State) : (s.putByte).rkind = s.rkind := rfl
@[simp] theorem State.putByte_rxSeq (s : State) : (s.putByte).rxSeq = s.rxSeq := rfl
@[simp] theorem State.putByte_failReason (s : State) : (s.putByte).failReason = s.failReason := rfl
@[simp] theorem State.putByte_done (s : State) : (s.putByte).done = s.done := rfl
@[simp] theorem State.putByte_txbuf (s : State) : (s.putByte).txbuf = s.txbuf := rfl
@[simp] theorem State.putByte_rxbuf (s : State) : (s.putByte).rxbuf = s.rxbuf := rfl
@[simp] theorem State.putByte_txframe (s : State) : (s.putByte).txframe = s.txframe := rfl
@[simp] theorem State.putByte_txlen (s : State) : (s.putByte).txlen = s.txlen := rfl
@[simp] theorem State.putByte_txidx (s : State) : (s.putByte).txidx = s.txidx := rfl
@[simp] theorem State.putByte_framebuf (s : State) : (s.putByte).framebuf = s.framebuf := rfl
@[simp] theorem State.putByte_rxcount (s : State) : (s.putByte).rxcount = s.rxcount := rfl
@[simp] theorem State.putByte_rxlen (s : State) : (s.putByte).rxlen = s.rxlen := rfl
@[simp] theorem State.putByte_maxsz (s : State) : (s.putByte).maxsz = s.maxsz := rfl
@[simp] theorem State.putByte_txWire (s : State) : (s.putByte).txWire = s.txWire ++ [s.txByte] := rfl
@[simp] theorem State.putByte_rxWire (s : State) : (s.putByte).rxWire = s.rxWire := rfl
@[simp] theorem State.putByte_inputs (s : State) : (s.putByte).inputs = s.inputs := rfl
@[simp] theorem State.putByte_edge (s : State) : (s.putByte).edge = s.edge := rfl
@[simp] theorem State.putByte_epoch (s : State) : (s.putByte).epoch = s.epoch := rfl
@[simp] theorem State.putByte_rdata (s : State) : (s.putByte).rdata = s.rdata := rfl
@[simp] theorem State.putByte_codecOut (s : State) : (s.putByte).codecOut = s.codecOut := rfl
@[simp] theorem State.putByte_txbufByte (s : State) (j : Nat) : (s.putByte).txbufByte j = s.txbufByte j := rfl
@[simp] theorem State.putByte_rxbufByte (s : State) (j : Nat) : (s.putByte).rxbufByte j = s.rxbufByte j := rfl
@[simp] theorem State.putByte_txframeByte (s : State) (j : Nat) : (s.putByte).txframeByte j = s.txframeByte j := rfl
@[simp] theorem State.putByte_framebufByte (s : State) (j : Nat) : (s.putByte).framebufByte j = s.framebufByte j := rfl

@[simp] theorem State.takeByte_state (s : State) (b : Byte) : (s.takeByte b).state = s.state := rfl
@[simp] theorem State.takeByte_connected (s : State) (b : Byte) : (s.takeByte b).connected = s.connected := rfl
@[simp] theorem State.takeByte_seq (s : State) (b : Byte) : (s.takeByte b).seq = s.seq := rfl
@[simp] theorem State.takeByte_cntSent (s : State) (b : Byte) : (s.takeByte b).cntSent = s.cntSent := rfl
@[simp] theorem State.takeByte_cntGood (s : State) (b : Byte) : (s.takeByte b).cntGood = s.cntGood := rfl
@[simp] theorem State.takeByte_cntBad (s : State) (b : Byte) : (s.takeByte b).cntBad = s.cntBad := rfl
@[simp] theorem State.takeByte_cntTimeout (s : State) (b : Byte) : (s.takeByte b).cntTimeout = s.cntTimeout := rfl
@[simp] theorem State.takeByte_deadline (s : State) (b : Byte) : (s.takeByte b).deadline = s.deadline := rfl
@[simp] theorem State.takeByte_dl (s : State) (b : Byte) : (s.takeByte b).dl = s.dl := rfl
@[simp] theorem State.takeByte_elapsed (s : State) (b : Byte) : (s.takeByte b).elapsed = s.elapsed := rfl
@[simp] theorem State.takeByte_result (s : State) (b : Byte) : (s.takeByte b).result = s.result := rfl
@[simp] theorem State.takeByte_rkind (s : State) (b : Byte) : (s.takeByte b).rkind = s.rkind := rfl
@[simp] theorem State.takeByte_rxSeq (s : State) (b : Byte) : (s.takeByte b).rxSeq = s.rxSeq := rfl
@[simp] theorem State.takeByte_failReason (s : State) (b : Byte) : (s.takeByte b).failReason = s.failReason := rfl
@[simp] theorem State.takeByte_done (s : State) (b : Byte) : (s.takeByte b).done = s.done := rfl
@[simp] theorem State.takeByte_txbuf (s : State) (b : Byte) : (s.takeByte b).txbuf = s.txbuf := rfl
@[simp] theorem State.takeByte_rxbuf (s : State) (b : Byte) : (s.takeByte b).rxbuf = s.rxbuf := rfl
@[simp] theorem State.takeByte_txframe (s : State) (b : Byte) : (s.takeByte b).txframe = s.txframe := rfl
@[simp] theorem State.takeByte_txlen (s : State) (b : Byte) : (s.takeByte b).txlen = s.txlen := rfl
@[simp] theorem State.takeByte_txidx (s : State) (b : Byte) : (s.takeByte b).txidx = s.txidx := rfl
@[simp] theorem State.takeByte_framebuf (s : State) (b : Byte) : (s.takeByte b).framebuf = s.framebuf := rfl
@[simp] theorem State.takeByte_rxcount (s : State) (b : Byte) : (s.takeByte b).rxcount = s.rxcount := rfl
@[simp] theorem State.takeByte_rxlen (s : State) (b : Byte) : (s.takeByte b).rxlen = s.rxlen := rfl
@[simp] theorem State.takeByte_maxsz (s : State) (b : Byte) : (s.takeByte b).maxsz = s.maxsz := rfl
@[simp] theorem State.takeByte_txWire (s : State) (b : Byte) : (s.takeByte b).txWire = s.txWire := rfl
@[simp] theorem State.takeByte_rxWire (s : State) (b : Byte) : (s.takeByte b).rxWire = s.rxWire ++ [b] := rfl
@[simp] theorem State.takeByte_inputs (s : State) (b : Byte) : (s.takeByte b).inputs = s.inputs := rfl
@[simp] theorem State.takeByte_edge (s : State) (b : Byte) : (s.takeByte b).edge = s.edge := rfl
@[simp] theorem State.takeByte_epoch (s : State) (b : Byte) : (s.takeByte b).epoch = s.epoch := rfl
@[simp] theorem State.takeByte_rdata (s : State) (b : Byte) : (s.takeByte b).rdata = s.rdata := rfl
@[simp] theorem State.takeByte_codecOut (s : State) (b : Byte) : (s.takeByte b).codecOut = s.codecOut := rfl
@[simp] theorem State.takeByte_txbufByte (s : State) (b : Byte) (j : Nat) : (s.takeByte b).txbufByte j = s.txbufByte j := rfl
@[simp] theorem State.takeByte_rxbufByte (s : State) (b : Byte) (j : Nat) : (s.takeByte b).rxbufByte j = s.rxbufByte j := rfl
@[simp] theorem State.takeByte_txframeByte (s : State) (b : Byte) (j : Nat) : (s.takeByte b).txframeByte j = s.txframeByte j := rfl
@[simp] theorem State.takeByte_framebufByte (s : State) (b : Byte) (j : Nat) : (s.takeByte b).framebufByte j = s.framebufByte j := rfl

@[simp] theorem State.countElapsed_state (s : State) (b : Bool) : (s.countElapsed b).state = s.state := rfl
@[simp] theorem State.countElapsed_connected (s : State) (b : Bool) : (s.countElapsed b).connected = s.connected := rfl
@[simp] theorem State.countElapsed_seq (s : State) (b : Bool) : (s.countElapsed b).seq = s.seq := rfl
@[simp] theorem State.countElapsed_cntSent (s : State) (b : Bool) : (s.countElapsed b).cntSent = s.cntSent := rfl
@[simp] theorem State.countElapsed_cntGood (s : State) (b : Bool) : (s.countElapsed b).cntGood = s.cntGood := rfl
@[simp] theorem State.countElapsed_cntBad (s : State) (b : Bool) : (s.countElapsed b).cntBad = s.cntBad := rfl
@[simp] theorem State.countElapsed_cntTimeout (s : State) (b : Bool) : (s.countElapsed b).cntTimeout = s.cntTimeout := rfl
@[simp] theorem State.countElapsed_deadline (s : State) (b : Bool) : (s.countElapsed b).deadline = s.deadline := rfl
@[simp] theorem State.countElapsed_dl (s : State) (b : Bool) : (s.countElapsed b).dl = s.dl := rfl
@[simp] theorem State.countElapsed_elapsed (s : State) (b : Bool) : (s.countElapsed b).elapsed = countTick s.elapsed b := rfl
@[simp] theorem State.countElapsed_result (s : State) (b : Bool) : (s.countElapsed b).result = s.result := rfl
@[simp] theorem State.countElapsed_rkind (s : State) (b : Bool) : (s.countElapsed b).rkind = s.rkind := rfl
@[simp] theorem State.countElapsed_rxSeq (s : State) (b : Bool) : (s.countElapsed b).rxSeq = s.rxSeq := rfl
@[simp] theorem State.countElapsed_failReason (s : State) (b : Bool) : (s.countElapsed b).failReason = s.failReason := rfl
@[simp] theorem State.countElapsed_done (s : State) (b : Bool) : (s.countElapsed b).done = s.done := rfl
@[simp] theorem State.countElapsed_txbuf (s : State) (b : Bool) : (s.countElapsed b).txbuf = s.txbuf := rfl
@[simp] theorem State.countElapsed_rxbuf (s : State) (b : Bool) : (s.countElapsed b).rxbuf = s.rxbuf := rfl
@[simp] theorem State.countElapsed_txframe (s : State) (b : Bool) : (s.countElapsed b).txframe = s.txframe := rfl
@[simp] theorem State.countElapsed_txlen (s : State) (b : Bool) : (s.countElapsed b).txlen = s.txlen := rfl
@[simp] theorem State.countElapsed_txidx (s : State) (b : Bool) : (s.countElapsed b).txidx = s.txidx := rfl
@[simp] theorem State.countElapsed_framebuf (s : State) (b : Bool) : (s.countElapsed b).framebuf = s.framebuf := rfl
@[simp] theorem State.countElapsed_rxcount (s : State) (b : Bool) : (s.countElapsed b).rxcount = s.rxcount := rfl
@[simp] theorem State.countElapsed_rxlen (s : State) (b : Bool) : (s.countElapsed b).rxlen = s.rxlen := rfl
@[simp] theorem State.countElapsed_maxsz (s : State) (b : Bool) : (s.countElapsed b).maxsz = s.maxsz := rfl
@[simp] theorem State.countElapsed_txWire (s : State) (b : Bool) : (s.countElapsed b).txWire = s.txWire := rfl
@[simp] theorem State.countElapsed_rxWire (s : State) (b : Bool) : (s.countElapsed b).rxWire = s.rxWire := rfl
@[simp] theorem State.countElapsed_inputs (s : State) (b : Bool) : (s.countElapsed b).inputs = s.inputs := rfl
@[simp] theorem State.countElapsed_edge (s : State) (b : Bool) : (s.countElapsed b).edge = s.edge := rfl
@[simp] theorem State.countElapsed_epoch (s : State) (b : Bool) : (s.countElapsed b).epoch = s.epoch := rfl
@[simp] theorem State.countElapsed_rdata (s : State) (b : Bool) : (s.countElapsed b).rdata = s.rdata := rfl
@[simp] theorem State.countElapsed_codecOut (s : State) (b : Bool) : (s.countElapsed b).codecOut = s.codecOut := rfl
@[simp] theorem State.countElapsed_txbufByte (s : State) (b : Bool) (j : Nat) : (s.countElapsed b).txbufByte j = s.txbufByte j := rfl
@[simp] theorem State.countElapsed_rxbufByte (s : State) (b : Bool) (j : Nat) : (s.countElapsed b).rxbufByte j = s.rxbufByte j := rfl
@[simp] theorem State.countElapsed_txframeByte (s : State) (b : Bool) (j : Nat) : (s.countElapsed b).txframeByte j = s.txframeByte j := rfl
@[simp] theorem State.countElapsed_framebufByte (s : State) (b : Bool) (j : Nat) : (s.countElapsed b).framebufByte j = s.framebufByte j := rfl

@[simp] theorem State.storeCandidate_state (s : State) (i : Nat) (b : Byte) : (s.storeCandidate i b).state = s.state := rfl
@[simp] theorem State.storeCandidate_connected (s : State) (i : Nat) (b : Byte) : (s.storeCandidate i b).connected = s.connected := rfl
@[simp] theorem State.storeCandidate_seq (s : State) (i : Nat) (b : Byte) : (s.storeCandidate i b).seq = s.seq := rfl
@[simp] theorem State.storeCandidate_cntSent (s : State) (i : Nat) (b : Byte) : (s.storeCandidate i b).cntSent = s.cntSent := rfl
@[simp] theorem State.storeCandidate_cntGood (s : State) (i : Nat) (b : Byte) : (s.storeCandidate i b).cntGood = s.cntGood := rfl
@[simp] theorem State.storeCandidate_cntBad (s : State) (i : Nat) (b : Byte) : (s.storeCandidate i b).cntBad = s.cntBad := rfl
@[simp] theorem State.storeCandidate_cntTimeout (s : State) (i : Nat) (b : Byte) : (s.storeCandidate i b).cntTimeout = s.cntTimeout := rfl
@[simp] theorem State.storeCandidate_deadline (s : State) (i : Nat) (b : Byte) : (s.storeCandidate i b).deadline = s.deadline := rfl
@[simp] theorem State.storeCandidate_dl (s : State) (i : Nat) (b : Byte) : (s.storeCandidate i b).dl = s.dl := rfl
@[simp] theorem State.storeCandidate_elapsed (s : State) (i : Nat) (b : Byte) : (s.storeCandidate i b).elapsed = s.elapsed := rfl
@[simp] theorem State.storeCandidate_result (s : State) (i : Nat) (b : Byte) : (s.storeCandidate i b).result = s.result := rfl
@[simp] theorem State.storeCandidate_rkind (s : State) (i : Nat) (b : Byte) : (s.storeCandidate i b).rkind = s.rkind := rfl
@[simp] theorem State.storeCandidate_rxSeq (s : State) (i : Nat) (b : Byte) : (s.storeCandidate i b).rxSeq = s.rxSeq := rfl
@[simp] theorem State.storeCandidate_failReason (s : State) (i : Nat) (b : Byte) : (s.storeCandidate i b).failReason = s.failReason := rfl
@[simp] theorem State.storeCandidate_done (s : State) (i : Nat) (b : Byte) : (s.storeCandidate i b).done = s.done := rfl
@[simp] theorem State.storeCandidate_txbuf (s : State) (i : Nat) (b : Byte) : (s.storeCandidate i b).txbuf = s.txbuf := rfl
@[simp] theorem State.storeCandidate_rxbuf (s : State) (i : Nat) (b : Byte) : (s.storeCandidate i b).rxbuf = s.rxbuf := rfl
@[simp] theorem State.storeCandidate_txframe (s : State) (i : Nat) (b : Byte) : (s.storeCandidate i b).txframe = s.txframe := rfl
@[simp] theorem State.storeCandidate_txlen (s : State) (i : Nat) (b : Byte) : (s.storeCandidate i b).txlen = s.txlen := rfl
@[simp] theorem State.storeCandidate_txidx (s : State) (i : Nat) (b : Byte) : (s.storeCandidate i b).txidx = s.txidx := rfl
@[simp] theorem State.storeCandidate_framebuf (s : State) (i : Nat) (b : Byte) : (s.storeCandidate i b).framebuf = Memory.write framebufSize s.framebuf i b := rfl
@[simp] theorem State.storeCandidate_rxcount (s : State) (i : Nat) (b : Byte) : (s.storeCandidate i b).rxcount = s.rxcount := rfl
@[simp] theorem State.storeCandidate_rxlen (s : State) (i : Nat) (b : Byte) : (s.storeCandidate i b).rxlen = s.rxlen := rfl
@[simp] theorem State.storeCandidate_maxsz (s : State) (i : Nat) (b : Byte) : (s.storeCandidate i b).maxsz = s.maxsz := rfl
@[simp] theorem State.storeCandidate_txWire (s : State) (i : Nat) (b : Byte) : (s.storeCandidate i b).txWire = s.txWire := rfl
@[simp] theorem State.storeCandidate_rxWire (s : State) (i : Nat) (b : Byte) : (s.storeCandidate i b).rxWire = s.rxWire := rfl
@[simp] theorem State.storeCandidate_inputs (s : State) (i : Nat) (b : Byte) : (s.storeCandidate i b).inputs = s.inputs := rfl
@[simp] theorem State.storeCandidate_edge (s : State) (i : Nat) (b : Byte) : (s.storeCandidate i b).edge = s.edge := rfl
@[simp] theorem State.storeCandidate_epoch (s : State) (i : Nat) (b : Byte) : (s.storeCandidate i b).epoch = s.epoch := rfl
@[simp] theorem State.storeCandidate_rdata (s : State) (i : Nat) (b : Byte) : (s.storeCandidate i b).rdata = s.rdata := rfl
@[simp] theorem State.storeCandidate_codecOut (s : State) (i : Nat) (b : Byte) : (s.storeCandidate i b).codecOut = s.codecOut := rfl
@[simp] theorem State.storeCandidate_txbufByte (s : State) (i : Nat) (b : Byte) (j : Nat) : (s.storeCandidate i b).txbufByte j = s.txbufByte j := rfl
@[simp] theorem State.storeCandidate_rxbufByte (s : State) (i : Nat) (b : Byte) (j : Nat) : (s.storeCandidate i b).rxbufByte j = s.rxbufByte j := rfl
@[simp] theorem State.storeCandidate_txframeByte (s : State) (i : Nat) (b : Byte) (j : Nat) : (s.storeCandidate i b).txframeByte j = s.txframeByte j := rfl

/-- An accepted command has its effect. -/
@[simp] theorem State.offer_idle {s : State} (t : State) (h : s.state = .idle) : s.offer t = t := if_pos h

/-- A command turned away has none. -/
@[simp] theorem State.offer_busy {s : State} (t : State) (h : s.state ≠ .idle) : s.offer t = s := if_neg h

/-- A wait leaves everything but DONE. -/
theorem State.stay_stay (s : State) : s.stay.stay = s.stay := rfl

end Sys2Proof.Machine
end

