-- ==== Sys2Proof/Laws/Edge.lean ====
section
/-! SUPPORT. What an edge can do, said once: the sample it takes, the two shapes of its next state, the commands an IDLE
edge can accept, and what the register port joins to an FSM arm. -/

namespace Sys2Proof.Machine

/-- The sample is the next one listed. -/
theorem State.sample_of_cons {s : State} {p : Ports} {ps : List Ports} (h : s.inputs = p :: ps) : s.sample = p := by
  simp [State.sample, h]

/-- Past the list's end the sample is free. -/
theorem State.sample_of_nil {s : State} (h : s.inputs = []) : s.sample = Config.freePorts s.edge := by
  simp [State.sample, h]

/-- Every command has a meaning at its accept edge: the state it leaves is one of these. -/
theorem exec_decodeCmd (w : CmdWord) (s : State) :
    exec (decodeCmd w) s = .next (s.offer (s.goto .openWait)) ∧ cmdOp w = 0 ∨
    exec (decodeCmd w) s = .next (s.offer (s.goto .closeWait)) ∧ cmdOp w = 1 ∨
    exec (decodeCmd w) s = .next (s.offer (sendAccept Config.params (cmdLen w).toNat s)) ∧ cmdOp w = 2 ∨
    exec (decodeCmd w) s = .next (s.offer (receiveAccept (cmdMax w) s)) ∧ cmdOp w = 3 ∨
    exec (decodeCmd w) s = .next (s.offer s.finish) ∧ cmdOp w = 4 ∨
    exec (decodeCmd w) s = .next (s.offer (s.completeKeep .illegal)) ∧ 5 ≤ (cmdOp w).toNat := by
  unfold decodeCmd
  rcases cmdOp_cases w with h | h | h | h | h | h | h | h <;> rw [h]
  · exact .inl ⟨rfl, rfl⟩
  · exact .inr (.inl ⟨rfl, rfl⟩)
  · exact .inr (.inr (.inl ⟨rfl, rfl⟩))
  · exact .inr (.inr (.inr (.inl ⟨rfl, rfl⟩)))
  · exact .inr (.inr (.inr (.inr (.inl ⟨rfl, rfl⟩))))
  · exact .inr (.inr (.inr (.inr (.inr ⟨rfl, by decide⟩))))
  · exact .inr (.inr (.inr (.inr (.inr ⟨rfl, by decide⟩))))
  · exact .inr (.inr (.inr (.inr (.inr ⟨rfl, by decide⟩))))

/-- What an IDLE edge can leave (R172): nothing changes, or a command is accepted. -/
theorem idleArm_cases {p : Ports} {s u : State} (hs : s.state = .idle) (h : idleArm p s = .next u) :
    (p.cmdValid = false ∧ u = s.stay) ∨
    (p.cmdValid = true ∧
      ((cmdOp p.cmdWord = 0 ∧ u = s.goto .openWait) ∨
       (cmdOp p.cmdWord = 1 ∧ u = s.goto .closeWait) ∨
       (cmdOp p.cmdWord = 2 ∧ u = sendAccept Config.params (cmdLen p.cmdWord).toNat s) ∨
       (cmdOp p.cmdWord = 3 ∧ u = receiveAccept (cmdMax p.cmdWord) s) ∨
       (cmdOp p.cmdWord = 4 ∧ u = s.finish) ∨
       (5 ≤ (cmdOp p.cmdWord).toNat ∧ u = s.completeKeep .illegal))) := by
  unfold idleArm at h
  by_cases hv : p.cmdValid = true
  · rw [if_pos hv] at h
    refine .inr ⟨hv, ?_⟩
    rcases exec_decodeCmd p.cmdWord s with ⟨he, ho⟩ | ⟨he, ho⟩ | ⟨he, ho⟩ | ⟨he, ho⟩ | ⟨he, ho⟩ | ⟨he, ho⟩ <;>
      (rw [he, State.offer_idle _ hs] at h; cases h)
    · exact .inl ⟨ho, rfl⟩
    · exact .inr (.inl ⟨ho, rfl⟩)
    · exact .inr (.inr (.inl ⟨ho, rfl⟩))
    · exact .inr (.inr (.inr (.inl ⟨ho, rfl⟩)))
    · exact .inr (.inr (.inr (.inr (.inl ⟨ho, rfl⟩))))
    · exact .inr (.inr (.inr (.inr (.inr ⟨ho, rfl⟩))))
  · rw [if_neg hv] at h
    cases h
    exact .inl ⟨by simpa using hv, rfl⟩

/-- Every FSM arm leaves a next state. -/
theorem fsmArm_next (p : Ports) (s : State) : ∃ u, fsmArm p s = .next u := by
  unfold fsmArm
  cases s.state
  case idle =>
    show ∃ u, idleArm p s = .next u
    unfold idleArm
    split
    · rcases exec_decodeCmd p.cmdWord s with ⟨he, -⟩ | ⟨he, -⟩ | ⟨he, -⟩ | ⟨he, -⟩ | ⟨he, -⟩ | ⟨he, -⟩ <;>
        exact ⟨_, he⟩
    · exact ⟨_, rfl⟩
  all_goals exact ⟨_, rfl⟩

/-- An edge with `rst = 1` (R170, item 1). -/
theorem step_of_rst {s : State} (h : s.sample.rst = true) :
    step s = .next (State.passEdge s.sample s s.resetElements) := by
  simp [step, clockEdge, h]

/-- An edge with `rst = 0`: the FSM arm of the state before it, joined by the register port (R170, items 2 to 4). -/
theorem step_of_arm {s u : State} (h : s.sample.rst = false) (hu : fsmArm s.sample s = .next u) :
    step s = .next (s.afterEdge u) := by
  simp [step, clockEdge, h, hu, State.afterEdge]

/-- What a step's next state is, said once. -/
theorem step_cases {s t : State} (h : step s = .next t) :
    (s.sample.rst = true ∧ t = State.passEdge s.sample s s.resetElements) ∨
    (s.sample.rst = false ∧ ∃ u, fsmArm s.sample s = .next u ∧ t = s.afterEdge u) := by
  by_cases hr : s.sample.rst = true
  · rw [step_of_rst hr] at h
    cases h
    exact .inl ⟨hr, rfl⟩
  · have hr : s.sample.rst = false := by simpa using hr
    obtain ⟨u, hu⟩ := fsmArm_next s.sample s
    rw [step_of_arm hr hu] at h
    cases h
    exact .inr ⟨hr, u, hu, rfl⟩

/-- DEADLINE after a register write (R264, R265). -/
theorem writeReg_deadline (s : State) (a : Nat) (d : Word32) :
    (writeReg s a d).deadline = if a = 0x006 then d else s.deadline := by
  unfold writeReg
  by_cases h : a = 0x006
  · rw [if_pos h, if_pos h]
  · rw [if_neg h, if_neg h]
    by_cases h2 : 0x100 ≤ a ∧ a ≤ 0x1F9 ∧ s.state = .idle
    · rw [if_pos h2]
    · rw [if_neg h2]

/-- TXBUF after a register write (R264, R266). -/
theorem writeReg_txbuf (s : State) (a : Nat) (d : Word32) :
    (writeReg s a d).txbuf =
      if 0x100 ≤ a ∧ a ≤ 0x1F9 ∧ s.state = .idle then Memory.write txbufSize s.txbuf (a - 0x100) (d.setWidth 8)
      else s.txbuf := by
  unfold writeReg
  by_cases h : a = 0x006
  · rw [if_pos h, if_neg (by omega)]
  · rw [if_neg h]
    by_cases h2 : 0x100 ≤ a ∧ a ≤ 0x1F9 ∧ s.state = .idle
    · rw [if_pos h2, if_pos h2]
    · rw [if_neg h2, if_neg h2]

@[simp] theorem State.afterEdge_state (s t : State) : (s.afterEdge t).state = t.state := by
  unfold State.afterEdge State.joinWrite State.passEdge; split <;> rfl
@[simp] theorem State.afterEdge_connected (s t : State) : (s.afterEdge t).connected = t.connected := by
  unfold State.afterEdge State.joinWrite State.passEdge; split <;> rfl
@[simp] theorem State.afterEdge_seq (s t : State) : (s.afterEdge t).seq = t.seq := by
  unfold State.afterEdge State.joinWrite State.passEdge; split <;> rfl
@[simp] theorem State.afterEdge_cntSent (s t : State) : (s.afterEdge t).cntSent = t.cntSent := by
  unfold State.afterEdge State.joinWrite State.passEdge; split <;> rfl
@[simp] theorem State.afterEdge_cntGood (s t : State) : (s.afterEdge t).cntGood = t.cntGood := by
  unfold State.afterEdge State.joinWrite State.passEdge; split <;> rfl
@[simp] theorem State.afterEdge_cntBad (s t : State) : (s.afterEdge t).cntBad = t.cntBad := by
  unfold State.afterEdge State.joinWrite State.passEdge; split <;> rfl
@[simp] theorem State.afterEdge_cntTimeout (s t : State) : (s.afterEdge t).cntTimeout = t.cntTimeout := by
  unfold State.afterEdge State.joinWrite State.passEdge; split <;> rfl
@[simp] theorem State.afterEdge_dl (s t : State) : (s.afterEdge t).dl = t.dl := by
  unfold State.afterEdge State.joinWrite State.passEdge; split <;> rfl
@[simp] theorem State.afterEdge_elapsed (s t : State) : (s.afterEdge t).elapsed = t.elapsed := by
  unfold State.afterEdge State.joinWrite State.passEdge; split <;> rfl
@[simp] theorem State.afterEdge_result (s t : State) : (s.afterEdge t).result = t.result := by
  unfold State.afterEdge State.joinWrite State.passEdge; split <;> rfl
@[simp] theorem State.afterEdge_rkind (s t : State) : (s.afterEdge t).rkind = t.rkind := by
  unfold State.afterEdge State.joinWrite State.passEdge; split <;> rfl
@[simp] theorem State.afterEdge_rxSeq (s t : State) : (s.afterEdge t).rxSeq = t.rxSeq := by
  unfold State.afterEdge State.joinWrite State.passEdge; split <;> rfl
@[simp] theorem State.afterEdge_failReason (s t : State) : (s.afterEdge t).failReason = t.failReason := by
  unfold State.afterEdge State.joinWrite State.passEdge; split <;> rfl
@[simp] theorem State.afterEdge_done (s t : State) : (s.afterEdge t).done = t.done := by
  unfold State.afterEdge State.joinWrite State.passEdge; split <;> rfl
@[simp] theorem State.afterEdge_rxbuf (s t : State) : (s.afterEdge t).rxbuf = t.rxbuf := by
  unfold State.afterEdge State.joinWrite State.passEdge; split <;> rfl
@[simp] theorem State.afterEdge_txframe (s t : State) : (s.afterEdge t).txframe = t.txframe := by
  unfold State.afterEdge State.joinWrite State.passEdge; split <;> rfl
@[simp] theorem State.afterEdge_txlen (s t : State) : (s.afterEdge t).txlen = t.txlen := by
  unfold State.afterEdge State.joinWrite State.passEdge; split <;> rfl
@[simp] theorem State.afterEdge_txidx (s t : State) : (s.afterEdge t).txidx = t.txidx := by
  unfold State.afterEdge State.joinWrite State.passEdge; split <;> rfl
@[simp] theorem State.afterEdge_framebuf (s t : State) : (s.afterEdge t).framebuf = t.framebuf := by
  unfold State.afterEdge State.joinWrite State.passEdge; split <;> rfl
@[simp] theorem State.afterEdge_rxcount (s t : State) : (s.afterEdge t).rxcount = t.rxcount := by
  unfold State.afterEdge State.joinWrite State.passEdge; split <;> rfl
@[simp] theorem State.afterEdge_rxlen (s t : State) : (s.afterEdge t).rxlen = t.rxlen := by
  unfold State.afterEdge State.joinWrite State.passEdge; split <;> rfl
@[simp] theorem State.afterEdge_maxsz (s t : State) : (s.afterEdge t).maxsz = t.maxsz := by
  unfold State.afterEdge State.joinWrite State.passEdge; split <;> rfl
@[simp] theorem State.afterEdge_txWire (s t : State) : (s.afterEdge t).txWire = t.txWire := by
  unfold State.afterEdge State.joinWrite State.passEdge; split <;> rfl
@[simp] theorem State.afterEdge_rxWire (s t : State) : (s.afterEdge t).rxWire = t.rxWire := by
  unfold State.afterEdge State.joinWrite State.passEdge; split <;> rfl
@[simp] theorem State.afterEdge_epoch (s t : State) : (s.afterEdge t).epoch = t.epoch := by
  unfold State.afterEdge State.joinWrite State.passEdge; split <;> rfl
@[simp] theorem State.afterEdge_codecOut (s t : State) : (s.afterEdge t).codecOut = t.codecOut := by
  unfold State.afterEdge State.joinWrite State.passEdge; split <;> rfl
@[simp] theorem State.afterEdge_rxbufByte (s t : State) (i : Nat) : (s.afterEdge t).rxbufByte i = t.rxbufByte i := by
  simp [State.rxbufByte]
@[simp] theorem State.afterEdge_txframeByte (s t : State) (i : Nat) : (s.afterEdge t).txframeByte i = t.txframeByte i := by
  simp [State.txframeByte]
@[simp] theorem State.afterEdge_framebufByte (s t : State) (i : Nat) : (s.afterEdge t).framebufByte i = t.framebufByte i := by
  simp [State.framebufByte]

@[simp] theorem State.afterEdge_inputs (s t : State) : (s.afterEdge t).inputs = s.inputs.tail := rfl
@[simp] theorem State.afterEdge_edge (s t : State) : (s.afterEdge t).edge = s.edge + 1 := rfl
@[simp] theorem State.afterEdge_rdata (s t : State) :
    (s.afterEdge t).rdata = readReg Config.params s s.sample.regAddr.toNat := rfl

/-- DEADLINE after an edge whose FSM arm leaves `t` (R170, R265). -/
theorem State.afterEdge_deadline (s t : State) (h : t.deadline = s.deadline) :
    (s.afterEdge t).deadline =
      if s.sample.regWr = true ∧ s.sample.regAddr.toNat = 0x006 then s.sample.regWdata else s.deadline := by
  unfold State.afterEdge State.joinWrite State.passEdge
  by_cases hw : s.sample.regWr = true <;> simp [hw, h, writeReg_deadline]

/-- TXBUF after an edge whose FSM arm leaves `t` (R170, R266). -/
theorem State.afterEdge_txbuf (s t : State) (h : t.txbuf = s.txbuf) :
    (s.afterEdge t).txbuf =
      if s.sample.regWr = true ∧ 0x100 ≤ s.sample.regAddr.toNat ∧ s.sample.regAddr.toNat ≤ 0x1F9 ∧ s.state = .idle then
        Memory.write txbufSize s.txbuf (s.sample.regAddr.toNat - 0x100) (s.sample.regWdata.setWidth 8)
      else s.txbuf := by
  unfold State.afterEdge State.joinWrite State.passEdge
  by_cases hw : s.sample.regWr = true <;> simp [hw, h, writeReg_txbuf]

end Sys2Proof.Machine
end

