-- ==== Sys2Proof/Laws/Config.lean ====
section
/-! SUPPORT. The parameters of this FLC satisfy the constraints of 00_scope.md rule R6. -/

namespace Sys2Proof

/-- `END_MARKER != START_MARKER` (D3), whatever the two are. -/
theorem Config.endMarker_ne : Config.endMarker ≠ Config.startMarker := by
  intro h
  have hv := congrArg BitVec.toNat h
  simp only [Config.endMarker, BitVec.toNat_add, BitVec.toNat_ofNat] at hv
  have := Config.markerGap.isLt
  have := Config.startMarker.isLt
  omega

/-- Every pair of distinct markers is one `Config` can have: the gap says nothing else (D3). -/
theorem Config.markerGap_covers (a b : Byte) (h : b ≠ a) : ∃ g : Fin 255, b = a + BitVec.ofNat 8 (g.val + 1) := by
  have hne : (b - a).toNat ≠ 0 := by
    intro h0
    apply h
    have hz : b - a = 0#8 := BitVec.eq_of_toNat_eq (by simpa using h0)
    simpa [BitVec.sub_eq_iff_eq_add] using hz
  have hlt := (b - a).isLt
  refine ⟨⟨(b - a).toNat - 1, by omega⟩, ?_⟩
  have : (b - a).toNat - 1 + 1 = (b - a).toNat := by omega
  simp only [this, BitVec.ofNat_toNat, BitVec.setWidth_eq]
  rw [BitVec.add_comm, BitVec.sub_add_cancel]

@[simp] theorem Config.params_startMarker : Config.params.startMarker = Config.startMarker := rfl
@[simp] theorem Config.params_endMarker : Config.params.endMarker = Config.endMarker := rfl
@[simp] theorem Config.params_maxBlock : Config.params.maxBlock = 250 := rfl
@[simp] theorem Config.params_deadlineReset : Config.params.deadlineReset = Config.deadlineReset := rfl

/-- The parameters are admitted ones (R6). -/
theorem Config.params_admitted : Config.params.Admitted :=
  ⟨Config.endMarker_ne, Nat.le_refl _⟩

end Sys2Proof
end

