-- ==== Sys2Proof/Laws/Codec.lean ====
section
/-! SUPPORT. The shape of a built frame and of a candidate's parts (40_codec.md rules R134, R136, R139). -/

namespace Sys2Proof.Machine

@[simp] theorem byteSum_nil : byteSum [] = 0 := rfl

@[simp] theorem byteSum_cons (b : Byte) (p : List Byte) : byteSum (b :: p) = b.toNat + byteSum p := rfl

@[simp] theorem byteSum_append (p q : List Byte) : byteSum (p ++ q) = byteSum p + byteSum q := by
  induction p with
  | nil => simp
  | cons b p ih => simp [ih, Nat.add_assoc]

/-- The sum is the sum of the bytes as numbers (R10). -/
theorem byteSum_eq_sum (p : List Byte) : byteSum p = (p.map BitVec.toNat).sum := by
  induction p with
  | nil => rfl
  | cons b p ih => simp [ih]

/-- The largest sum (R145). -/
theorem byteSum_le (p : List Byte) : byteSum p ≤ 255 * p.length := by
  induction p with
  | nil => simp
  | cons b p ih => have := b.isLt; simp only [byteSum_cons, List.length_cons]; omega

/-- CHECKSUM as a number (R131). -/
theorem codecChecksum_toNat (p : List Byte) : (codecChecksum p).toNat = (256 - byteSum p % 256) % 256 := by
  simp [codecChecksum]

/-- CK_OK as a congruence (R132). -/
theorem codecCkOk_iff (p : List Byte) (c : Byte) : codecCkOk p c = true ↔ (byteSum p + c.toNat) % 256 = 0 := by
  simp [codecCkOk]

/-- BUILD's count (R134). -/
@[simp] theorem codecBuild_length (P : Params) (p : List Byte) (q : SeqNum) : (codecBuild P p q).length = buildLength p := by
  simp [codecBuild, buildLength]

@[simp] theorem codecBuild_head (P : Params) (p : List Byte) (q : SeqNum) : (codecBuild P p q).head? = some P.startMarker := by
  simp [codecBuild]

@[simp] theorem codecBuild_last (P : Params) (p : List Byte) (q : SeqNum) : (codecBuild P p q).getLast? = some P.endMarker := by
  rw [show codecBuild P p q =
    ([P.startMarker, BitVec.ofNat 8 (buildLength p), q.setWidth 8] ++ p ++ [codecChecksum p]) ++ [P.endMarker] by simp [codecBuild]]
  exact List.getLast?_concat

/-- The payload span of a built frame is the payload (R91, R134). -/
@[simp] theorem payloadSpan_build (P : Params) (p : List Byte) (q : SeqNum) : payloadSpan (codecBuild P p q) = p := by
  simp [payloadSpan, codecBuild]

/-- The byte before the end marker of a built frame is the checksum (R91, R134). -/
theorem codecBuild_checksum (P : Params) (p : List Byte) (q : SeqNum) :
    (codecBuild P p q).getD ((codecBuild P p q).length - 2) 0 = codecChecksum p := by
  have h : (codecBuild P p q).length - 2 = p.length + 3 := by simp [buildLength]
  rw [h]
  simp [codecBuild, List.getD_eq_getElem?_getD]

/-- The length byte of a built frame, as a number (R92). -/
theorem codecBuild_lengthByte (P : Params) (p : List Byte) (q : SeqNum) (h : p.length ≤ 250) :
    ((codecBuild P p q).getD 1 0).toNat = buildLength p := by
  simp only [codecBuild, buildLength, List.cons_append, List.getD_cons_succ, List.getD_cons_zero, BitVec.toNat_ofNat]
  omega

/-- The sequence byte of a built frame (R93). -/
@[simp] theorem extractSeq_build (P : Params) (p : List Byte) (q : SeqNum) :
    extractSeq (codecBuild P p q) = q.setWidth 8 := by
  simp [extractSeq, codecBuild]

/-- VALIDATE's bit says whether its reason is NONE (R136). -/
@[simp] theorem codecValidate_ok (P : Params) (f : List Byte) :
    (codecValidate P f).1 = true ↔ validateReason P f = .none := by
  simp [codecValidate]

/-- The payload EXTRACT keeps has its count's length, for a candidate of 5 bytes or more (R139). -/
theorem extractPayload_length (f : List Byte) (m : Nat) (h : 5 ≤ f.length) :
    (extractPayload f m).length = extractCount f m := by
  simp [extractPayload, extractCount]; omega

/-- EXTRACT's count never passes the payload length nor the maximum (R139). -/
theorem extractCount_le (f : List Byte) (m : Nat) : extractCount f m ≤ f.length - 5 ∧ extractCount f m ≤ m :=
  ⟨Nat.min_le_left _ _, Nat.min_le_right _ _⟩

end Sys2Proof.Machine
end

