-- ==== Sys2Proof/Laws/Frame.lean ====
section
/-! SUPPORT. Frames read byte by byte: the candidate and the payload as lists of buffer bytes, VALIDATE's reason as
`frameReason`, and sums over a span (40_codec.md rules R10, R134, R136; 42_receive.md rule R219). -/

namespace Sys2Proof.Machine

@[simp] theorem State.candidate_length (s : State) : s.candidate.length = s.rxcount.toNat := by simp [State.candidate]

/-- Byte `i` of the candidate (R219). -/
theorem State.candidate_getElem? (s : State) (i : Nat) :
    s.candidate[i]? = if i < s.rxcount.toNat then some (s.framebufByte i) else none := by
  simp only [State.candidate, List.getElem?_map]
  by_cases h : i < s.rxcount.toNat
  · rw [List.getElem?_range h, if_pos h]; rfl
  · rw [if_neg h]; simp; omega

@[simp] theorem State.payload_length (s : State) (n : Nat) : (s.payload n).length = n := by simp [State.payload]

/-- Byte `i` of SEND's payload (R185). -/
theorem State.payload_getElem? (s : State) (n i : Nat) :
    (s.payload n)[i]? = if i < n then some (s.txbufByte i) else none := by
  simp only [State.payload, List.getElem?_map]
  by_cases h : i < n
  · rw [List.getElem?_range h, if_pos h]; rfl
  · rw [if_neg h]; simp; omega

/-- The sum of a list of bytes given by their index (R10). -/
theorem byteSum_range (n : Nat) (g : Nat → Byte) : byteSum ((List.range n).map g) = sumOver n g := by
  simp [byteSum_eq_sum, sumOver, Function.comp_def]

/-- A sum depends on the bytes of its span only (R10). -/
theorem sumOver_congr {n : Nat} {g g' : Nat → Byte} (h : ∀ i, i < n → g' i = g i) : sumOver n g' = sumOver n g := by
  unfold sumOver
  exact congrArg List.sum (List.map_congr_left fun i hi => by rw [h i (by simpa using hi)])

theorem sumOver_succ (n : Nat) (g : Nat → Byte) : sumOver (n + 1) g = sumOver n g + (g n).toNat := by
  simp [sumOver, List.range_succ]

/-- One changed byte changes the sum by the byte's change (R143). -/
theorem sumOver_update {n : Nat} {g g' : Nat → Byte} {j : Nat} (hj : j < n) (h : ∀ i, i < n → i ≠ j → g' i = g i) :
    sumOver n g' + (g j).toNat = sumOver n g + (g' j).toNat := by
  induction n with
  | zero => omega
  | succ n ih =>
    rw [sumOver_succ, sumOver_succ]
    by_cases hjn : j = n
    · subst hjn
      rw [sumOver_congr fun i hi => h i (by omega) (by omega)]; omega
    · have := ih (by omega) fun i hi hne => h i (by omega) hne
      rw [h n (by omega) fun e => hjn e.symm]; omega

/-- VALIDATE's reason, for a list whose bytes are `g` (R136). -/
theorem validateReason_eq {P : Params} {f : List Byte} {g : Nat → Byte} (hg : ∀ i, i < f.length → f[i]? = some (g i))
    (h1 : 1 ≤ f.length) : validateReason P f = frameReason P g f.length := by
  unfold validateReason frameReason
  have hh : f.head? = some (g 0) := by rw [List.head?_eq_getElem?]; exact hg 0 (by omega)
  have hl : f.getLast? = some (g (f.length - 1)) := by rw [List.getLast?_eq_getElem?]; exact hg _ (by omega)
  rw [hh, hl]
  simp only [ne_eq, Option.some.injEq]
  by_cases a : g 0 = P.startMarker <;> simp only [a, not_true_eq_false, not_false_eq_true, if_true, if_false]
  by_cases b : g (f.length - 1) = P.endMarker <;> simp only [b, not_true_eq_false, not_false_eq_true, if_true, if_false]
  by_cases c : f.length < 5
  · simp [c]
  · have e1 : f.getD 1 0 = g 1 := by rw [List.getD_eq_getElem?_getD, hg 1 (by omega)]; rfl
    have e2 : f.getD (f.length - 2) 0 = g (f.length - 2) := by rw [List.getD_eq_getElem?_getD, hg _ (by omega)]; rfl
    have e3 : payloadSpan f = (List.range (f.length - 5)).map (fun i => g (3 + i)) := by
      apply List.ext_getElem?
      intro i
      simp only [payloadSpan, List.getElem?_take, List.getElem?_drop, List.getElem?_map]
      by_cases hi : i < f.length - 5
      · rw [if_pos hi, hg _ (by omega), List.getElem?_range hi]; rfl
      · rw [if_neg hi]; simp; omega
    rw [e1, e2, e3]
    congr 1
    simp only [codecCkOk, byteSum_range, decide_eq_false_iff_not]

/-- The reason VALIDATE gives for the candidate in FRAMEBUF (R219). -/
theorem validateReason_candidate (P : Params) {s : State} (h : 1 ≤ s.rxcount.toNat) :
    validateReason P s.candidate = frameReason P s.framebufByte s.rxcount.toNat := by
  rw [validateReason_eq (g := s.framebufByte)
    (fun i hi => by rw [State.candidate_length] at hi; rw [State.candidate_getElem?, if_pos hi])
    (by rw [State.candidate_length]; exact h), State.candidate_length]

/-- A passing candidate satisfies all four checks (R136). -/
theorem frameReason_none {P : Params} {f : Nat → Byte} {n : Nat} (h : frameReason P f n = .none) :
    5 ≤ n ∧ f 0 = P.startMarker ∧ f (n - 1) = P.endMarker ∧ (f 1).toNat = n ∧
    (sumOver (n - 5) (fun i => f (3 + i)) + (f (n - 2)).toNat) % 256 = 0 := by
  revert h
  unfold frameReason
  split <;> [simp; split <;> [simp; split <;> [simp; split <;> [simp; skip]]]]
  rename_i h0 h1 h2 h3
  intro _
  push Not at h0 h1 h2 h3
  exact ⟨h2.2, h0, h1, h2.1, h3⟩

/-- Byte `i` of a built frame (R91, R134). -/
theorem codecBuild_getElem? (P : Params) (p : List Byte) (q : SeqNum) (i : Nat) :
    (codecBuild P p q)[i]? =
      if i = 0 then some P.startMarker else if i = 1 then some (BitVec.ofNat 8 (p.length + 5))
      else if i = 2 then some (q.setWidth 8) else if i < p.length + 3 then p[i - 3]?
      else if i = p.length + 3 then some (codecChecksum p) else if i = p.length + 4 then some P.endMarker else none := by
  rcases i with _ | _ | _ | i
  · rfl
  · rfl
  · rfl
  · simp only [codecBuild, List.cons_append, List.nil_append, List.getElem?_cons_succ]
    rw [show i + 1 + 1 + 1 - 3 = i by omega, if_neg (by omega), if_neg (by omega), if_neg (by omega)]
    by_cases h : i < p.length
    · rw [if_pos (by omega), List.getElem?_append_left h]
    · rw [if_neg (by omega), List.getElem?_append_right (by omega)]
      obtain ⟨k, rfl⟩ : ∃ k, i = p.length + k := ⟨i - p.length, by omega⟩
      rw [Nat.add_sub_cancel_left]
      rcases k with _ | _ | k
      · simp
      · rw [if_neg (by omega), if_pos (by omega)]; rfl
      · rw [if_neg (by omega), if_neg (by omega)]; rfl

end Sys2Proof.Machine
end

