-- ==== Sys2Proof/Laws/Arms.lean ====
section
/-! SUPPORT. What an FSM arm can do, said once: the elements no arm writes, the cases of an acquisition edge, and the
counters' and the timer's arithmetic as bit-vector addition (41_session.md rule R170; 42_receive.md rules R212 to R214). -/

namespace Sys2Proof.Machine

/-- A counter's step is addition modulo 2^32 (R30). -/
theorem bumpCounter_eq (c : Word32) : bumpCounter c = c + 1 := by
  apply BitVec.eq_of_toNat_eq; simp [bumpCounter]

/-- SEQ's step is addition modulo 16 (R190). -/
theorem nextSeq_eq (q : SeqNum) : nextSeq q = q + 1 := by
  apply BitVec.eq_of_toNat_eq; simp [nextSeq]

/-- TXIDX's and RXCOUNT's step. -/
theorem ofNat_succ_byte (c : Byte) : BitVec.ofNat 8 (c.toNat + 1) = c + 1 := by
  apply BitVec.eq_of_toNat_eq; simp

/-- ELAPSED's update at an edge is `elapsedNext` (R212). -/
theorem countTick_sample (s : State) : countTick s.elapsed s.sample.tick = s.elapsedNext := by
  unfold countTick sat32 State.elapsedNext
  have := s.elapsed.isLt
  cases s.sample.tick
  · apply BitVec.eq_of_toNat_eq
    simp only [BitVec.toNat_ofNat, Bool.toNat_false, Bool.false_eq_true, false_and, if_false]; omega
  · by_cases h : s.elapsed.toNat < 2 ^ 32 - 1
    · apply BitVec.eq_of_toNat_eq
      simp only [BitVec.toNat_ofNat, Bool.toNat_true, true_and, h, if_true, BitVec.toNat_add,
        show (1 : Word32).toNat = 1 from rfl]; omega
    · apply BitVec.eq_of_toNat_eq
      simp only [BitVec.toNat_ofNat, Bool.toNat_true, true_and, h, if_false]; omega

/-- ELAPSED moves by at most one (R212). -/
theorem State.elapsedNext_le (s : State) : s.elapsedNext.toNat ≤ s.elapsed.toNat + 1 := by
  unfold State.elapsedNext
  split
  · rw [BitVec.toNat_add]; exact Nat.mod_le _ _
  · omega

/-- No FSM arm writes DEADLINE or TXBUF (R73, R170), the buffers' epoch or the codec's outputs. -/
theorem fsmArm_frame {p : Ports} {s u : State} (h : fsmArm p s = .next u) :
    u.deadline = s.deadline ∧ u.txbuf = s.txbuf ∧ u.epoch = s.epoch ∧ u.codecOut = s.codecOut := by
  unfold fsmArm at h
  cases hs : s.state <;> rw [hs] at h
  case idle =>
    rcases idleArm_cases hs h with ⟨-, rfl⟩ | ⟨-, h⟩
    · simp
    · rcases h with ⟨-, rfl⟩ | ⟨-, rfl⟩ | ⟨-, rfl⟩ | ⟨-, rfl⟩ | ⟨-, rfl⟩ | ⟨-, rfl⟩ <;> try simp
      · unfold sendAccept; split <;> [skip; split] <;> simp [State.startFrame]
      · unfold receiveAccept; split <;> simp [State.startHunt]
  case openWait =>
    cases h; unfold openWaitArm State.completeAnswer; repeat (split <;> try simp)
  case closeWait =>
    cases h; unfold closeWaitArm State.completeAnswer; repeat (split <;> try simp)
  case tx =>
    cases h; unfold txArm; repeat (split <;> try simp [State.sendDone])
  case check =>
    cases h; unfold checkArm; split <;> simp [State.goodFrame, State.badFrame]
  all_goals
    cases h
    unfold waitArm rxPortArm consumeByte
    split
    · simp [State.timeOut]
    · split
      · simp
      · split
        · simp [hs, huntByte, lenByte, bodyByte]
          try (split <;> simp)
        · simp

/-- The arm of HUNT, LEN and BODY is `waitArm` (R212). -/
theorem fsmArm_receiving {p : Ports} {s : State} (h : s.state = .hunt ∨ s.state = .len ∨ s.state = .body) :
    fsmArm p s = .next (waitArm Config.params p s) := by
  rcases h with h | h | h <;> simp [fsmArm, h]

/-- An acquisition edge, by the priorities of R212 to R214: the deadline, `rx_err`, `rx_valid`, nothing. -/
theorem waitArm_cases (P : Params) (p : Ports) (s : State) :
    (s.dl.toNat ≤ s.elapsed.toNat ∧ waitArm P p s = s.timeOut) ∨
    (s.elapsed.toNat < s.dl.toNat ∧
      ((p.rxErr = true ∧ waitArm P p s = (s.countElapsed p.tick).complete .transport (negResult 3)) ∨
       (p.rxErr = false ∧ p.rxValid = true ∧
          waitArm P p s = consumeByte P p.rxData ((s.countElapsed p.tick).takeByte p.rxData)) ∨
       (p.rxErr = false ∧ p.rxValid = false ∧ waitArm P p s = (s.countElapsed p.tick).stay))) := by
  unfold waitArm rxPortArm State.deadlinePassed
  by_cases hd : s.dl.toNat ≤ s.elapsed.toNat
  · exact .inl ⟨hd, by simp [hd]⟩
  · refine .inr ⟨by omega, ?_⟩
    cases he : p.rxErr
    · cases hv : p.rxValid
      · exact .inr (.inr ⟨rfl, rfl, by simp [hd]⟩)
      · exact .inr (.inl ⟨rfl, rfl, by simp [hd]⟩)
    · exact .inl ⟨rfl, by simp [hd]⟩

end Sys2Proof.Machine
end

