-- ==== Sys2Proof/Laws/Memory.lean ====
section
/-! SUPPORT. The laws of the buffers: a byte read after a write, and the canonical form, which every operation keeps. -/

namespace Sys2Proof.Machine

/-- An index of a canonical buffer that lies below every listed one is not listed. -/
theorem Memory.read?_of_lt {m : Memory} {a : Nat} (h : ∀ c ∈ m, a < c.1) : Memory.read? m a = none := by
  induction m with
  | nil => rfl
  | cons c m ih =>
    obtain ⟨b, v⟩ := c
    have hb : a < b := h (b, v) (by simp)
    simp only [Memory.read?, if_neg (Nat.ne_of_gt hb)]
    exact ih fun c hc => h c (by simp [hc])

/-- The byte inserted is the byte read back. -/
@[simp] theorem Memory.read?_insert_same (m : Memory) (a : Nat) (v : Byte) :
    Memory.read? (Memory.insert m a v) a = some v := by
  induction m with
  | nil => simp [Memory.insert, Memory.read?]
  | cons c m ih =>
    obtain ⟨b, w⟩ := c
    simp only [Memory.insert]
    split
    · simp [Memory.read?]
    · split
      · simp [Memory.read?]
      · simp_all [Memory.read?, eq_comm]

/-- An insertion leaves every other index as it was. -/
theorem Memory.read?_insert_other (m : Memory) {a b : Nat} (v : Byte) (h : b ≠ a) :
    Memory.read? (Memory.insert m a v) b = Memory.read? m b := by
  induction m with
  | nil => simp [Memory.insert, Memory.read?, h.symm]
  | cons c m ih =>
    obtain ⟨i, w⟩ := c
    simp only [Memory.insert]
    split
    · simp [Memory.read?, h.symm]
    · split
      · rename_i hai
        subst hai
        simp [Memory.read?, h.symm]
      · simp only [Memory.read?, ih]

/-- One write, at every index. -/
theorem Memory.read?_write (size : Nat) (m : Memory) (a b : Nat) (v : Byte) :
    Memory.read? (Memory.write size m a v) b = if b = a ∧ a < size then some v else Memory.read? m b := by
  unfold Memory.write
  by_cases hs : a < size
  · by_cases hb : b = a
    · subst hb; simp [hs]
    · simp [hs, hb, Memory.read?_insert_other m v hb]
  · simp [hs]

/-- A run of writes, at every index: the bytes of `vs` from index `a`, and elsewhere what was there. -/
theorem Memory.read?_writeFrom (size : Nat) (vs : List Byte) (m : Memory) (a b : Nat) (h : a + vs.length ≤ size) :
    Memory.read? (Memory.writeFrom size m a vs) b =
      if a ≤ b ∧ b < a + vs.length then vs[b - a]? else Memory.read? m b := by
  induction vs generalizing m a with
  | nil => simp [Memory.writeFrom]
  | cons v vs ih =>
    simp only [List.length_cons] at h
    rw [Memory.writeFrom, ih _ (a + 1) (by omega), Memory.read?_write]
    rcases Nat.lt_trichotomy b a with hb | hb | hb
    · rw [if_neg (by omega), if_neg (by omega), if_neg (by simp; omega)]
    · subst hb
      rw [if_neg (by omega), if_pos ⟨rfl, by omega⟩, if_pos (by simp)]
      simp
    · by_cases hlt : b < a + 1 + vs.length
      · rw [if_pos (by omega), if_pos (by simp; omega)]
        obtain ⟨k, rfl⟩ : ∃ k, b = a + 1 + k := ⟨b - (a + 1), by omega⟩
        have e1 : a + 1 + k - (a + 1) = k := by omega
        have e2 : a + 1 + k - a = k + 1 := by omega
        rw [e1, e2, List.getElem?_cons_succ]
      · rw [if_neg (by omega), if_neg (by omega), if_neg (by simp; omega)]

/-- Every index an insertion lists is the new one or one listed before. -/
theorem Memory.mem_insert {m : Memory} {a : Nat} {v : Byte} {c : Host.Cell} (h : c ∈ Memory.insert m a v) :
    c = (a, v) ∨ c ∈ m := by
  induction m with
  | nil => simpa [Memory.insert] using h
  | cons d m ih =>
    obtain ⟨b, w⟩ := d
    simp only [Memory.insert] at h
    split at h
    · simpa using h
    · split at h
      · rcases List.mem_cons.mp h with h | h
        · exact .inl h
        · exact .inr (by simp [h])
      · rcases List.mem_cons.mp h with h | h
        · exact .inr (by simp [h])
        · rcases ih h with h | h
          · exact .inl h
          · exact .inr (by simp [h])

/-- The empty buffer is canonical. -/
@[simp] theorem Memory.wf_nil (size : Nat) : Memory.wf size [] := by simp [Memory.wf]

/-- An insertion inside the buffer keeps the canonical form. -/
theorem Memory.wf_insert {size : Nat} {m : Memory} {a : Nat} (v : Byte) (ha : a < size) (h : Memory.wf size m) :
    Memory.wf size (Memory.insert m a v) := by
  refine ⟨?_, fun c hc => ?_⟩
  · obtain ⟨hp, -⟩ := h
    induction m with
    | nil => simp [Memory.insert]
    | cons d m ih =>
      obtain ⟨b, w⟩ := d
      obtain ⟨hd, hp⟩ := List.pairwise_cons.mp hp
      simp only [Memory.insert]
      split
      · rename_i hab
        refine List.pairwise_cons.mpr ⟨fun c hc => ?_, List.pairwise_cons.mpr ⟨hd, hp⟩⟩
        rcases List.mem_cons.mp hc with rfl | hc
        · exact hab
        · exact Nat.lt_trans hab (hd c hc)
      · split
        · rename_i hab
          exact List.pairwise_cons.mpr ⟨by simpa [hab] using hd, hp⟩
        · refine List.pairwise_cons.mpr ⟨fun c hc => ?_, ih hp⟩
          rcases Memory.mem_insert hc with rfl | hc
          · show b < a; omega
          · exact hd c hc
  · rcases Memory.mem_insert hc with rfl | hc
    · exact ha
    · exact h.2 c hc

/-- A write keeps the canonical form. -/
theorem Memory.wf_write {size : Nat} {m : Memory} (a : Nat) (v : Byte) (h : Memory.wf size m) :
    Memory.wf size (Memory.write size m a v) := by
  unfold Memory.write
  split
  · exact Memory.wf_insert v ‹_› h
  · exact h

/-- A run of writes keeps the canonical form. -/
theorem Memory.wf_writeFrom {size : Nat} (vs : List Byte) {m : Memory} (a : Nat) (h : Memory.wf size m) :
    Memory.wf size (Memory.writeFrom size m a vs) := by
  induction vs generalizing m a with
  | nil => exact h
  | cons v vs ih => exact ih (a + 1) (Memory.wf_write a v h)

/-- The buffers of the reset state are canonical. -/
theorem Memory.wf_reset :
    Memory.wf txbufSize State.reset.txbuf ∧ Memory.wf rxbufSize State.reset.rxbuf ∧
    Memory.wf txframeSize State.reset.txframe ∧ Memory.wf framebufSize State.reset.framebuf :=
  ⟨Memory.wf_nil _, Memory.wf_nil _, Memory.wf_nil _, Memory.wf_nil _⟩

/-- Two canonical buffers that read alike at every index are equal data. -/
theorem Memory.ext_of_wf {size : Nat} {m n : Memory} (hm : Memory.wf size m) (hn : Memory.wf size n)
    (h : ∀ a, Memory.read? m a = Memory.read? n a) : m = n := by
  obtain ⟨hm, -⟩ := hm
  obtain ⟨hn, -⟩ := hn
  induction m generalizing n with
  | nil =>
    cases n with
    | nil => rfl
    | cons c n => exact absurd (h c.1) (by simp [Memory.read?])
  | cons c m ih =>
    obtain ⟨a, v⟩ := c
    cases n with
    | nil => exact absurd (h a) (by simp [Memory.read?])
    | cons d n =>
      obtain ⟨b, w⟩ := d
      obtain ⟨ha, hm⟩ := List.pairwise_cons.mp hm
      obtain ⟨hb, hn'⟩ := List.pairwise_cons.mp hn
      have hab : a = b := by
        rcases Nat.lt_trichotomy a b with hlt | he | hlt
        · have h1 := h a
          have : Memory.read? n a = none := Memory.read?_of_lt fun c hc => Nat.lt_trans hlt (hb c hc)
          simp [Memory.read?, Nat.ne_of_gt hlt, this] at h1
        · exact he
        · have h1 := h b
          have : Memory.read? m b = none := Memory.read?_of_lt fun c hc => Nat.lt_trans hlt (ha c hc)
          simp [Memory.read?, Nat.ne_of_gt hlt, this] at h1
      subst hab
      have hvw : v = w := by simpa [Memory.read?] using h a
      subst hvw
      have htail : m = n := by
        refine ih (fun x => ?_) hm hn'
        by_cases hx : a = x
        · subst hx
          rw [Memory.read?_of_lt ha, Memory.read?_of_lt hb]
        · simpa [Memory.read?, hx] using h x
      rw [htail]

end Sys2Proof.Machine
end

