-- ==== Sys2Proof/Laws/PerInstr.lean ====
section
/-! SUPPORT. The per-instruction family Opcode: the low three bits of an operation's command word are the `match` value of
its row in spec/opcode_table.json, and an operation that is no command has no command word. One lemma per constructor. -/

namespace Sys2Proof.Laws.Opcode

/-- The `match` value of the row, for the eight rows of format `cmd_word[19:0]` (mask 0x00007). -/
def tableMatch : Instr → Option Nat
  | .connect _ _ _ => some 0x00000
  | .disconnect _ _ _ => some 0x00001
  | .send _ _ _ => some 0x00002
  | .receive _ _ _ => some 0x00003
  | .ack _ _ _ => some 0x00004
  | .reserved5 _ _ _ => some 0x00005
  | .reserved6 _ _ _ => some 0x00006
  | .reserved7 _ _ _ => some 0x00007
  | .regRead _ => none
  | .regWrite _ _ => none
  | .checksum _ => none
  | .ckOk _ _ => none
  | .build _ _ => none
  | .validate _ => none
  | .extract _ _ => none

/-- The family's statement. -/
def Statement (i : Instr) : Prop := (encodeCmd i).map (fun w => (cmdOp w).toNat) = tableMatch i

theorem connect (dbg : Bool) (len maxsz : Byte) : Statement (.connect dbg len maxsz) := by
  simp [Statement, encodeCmd, tableMatch]
theorem disconnect (dbg : Bool) (len maxsz : Byte) : Statement (.disconnect dbg len maxsz) := by
  simp [Statement, encodeCmd, tableMatch]
theorem send (dbg : Bool) (len maxsz : Byte) : Statement (.send dbg len maxsz) := by
  simp [Statement, encodeCmd, tableMatch]
theorem receive (dbg : Bool) (len maxsz : Byte) : Statement (.receive dbg len maxsz) := by
  simp [Statement, encodeCmd, tableMatch]
theorem ack (dbg : Bool) (len maxsz : Byte) : Statement (.ack dbg len maxsz) := by
  simp [Statement, encodeCmd, tableMatch]
theorem reserved5 (dbg : Bool) (len maxsz : Byte) : Statement (.reserved5 dbg len maxsz) := by
  simp [Statement, encodeCmd, tableMatch]
theorem reserved6 (dbg : Bool) (len maxsz : Byte) : Statement (.reserved6 dbg len maxsz) := by
  simp [Statement, encodeCmd, tableMatch]
theorem reserved7 (dbg : Bool) (len maxsz : Byte) : Statement (.reserved7 dbg len maxsz) := by
  simp [Statement, encodeCmd, tableMatch]
theorem regRead (addr : RegIndex) : Statement (.regRead addr) := rfl
theorem regWrite (addr : RegIndex) (data : Word32) : Statement (.regWrite addr data) := rfl
theorem checksum (p : List Byte) : Statement (.checksum p) := rfl
theorem ckOk (p : List Byte) (c : Byte) : Statement (.ckOk p c) := rfl
theorem build (p : List Byte) (seq : SeqNum) : Statement (.build p seq) := rfl
theorem validate (f : List Byte) : Statement (.validate f) := rfl
theorem extract (f : List Byte) (maxsz : Byte) : Statement (.extract f maxsz) := rfl

end Sys2Proof.Laws.Opcode
end

