-- ==== Sys2Proof/Laws/RegPort.lean ====
section
/-! SUPPORT. READ(a) index by index, and the packed words of the register map as numbers (43_register_access.md rules R261
to R263). -/

namespace Sys2Proof.Machine

/-- A field of a number packed above `w` lower bits. -/
theorem setWidth32_concat_toNat {v w : Nat} (a : BitVec v) (b : BitVec w) (h : v + w ≤ 32) :
    ((a ++ b).setWidth 32).toNat = a.toNat * 2 ^ w + b.toNat := by
  rw [BitVec.toNat_setWidth, toNat_concat]
  have hlt : a.toNat * 2 ^ w + b.toNat < 2 ^ (v + w) := toNat_concat a b ▸ (a ++ b).isLt
  exact Nat.mod_eq_of_lt (Nat.lt_of_lt_of_le hlt (Nat.pow_le_pow_right (by decide) h))

/-- STATUS as a number. -/
theorem State.statusWord_toNat (s : State) :
    s.statusWord.toNat = s.state.code.toNat * 8 + s.done.toNat * 4 + s.busy.toNat * 2 + s.connected.toNat := by
  rw [State.statusWord, setWidth32_concat_toNat _ _ (by decide)]
  simp only [toNat_concat, BitVec.toNat_ofBool]
  omega

/-- The RESULT register as a number. -/
theorem State.resultWord_toNat (s : State) : s.resultWord.toNat = s.rkind.code.toNat * 65536 + s.result.toNat := by
  rw [State.resultWord, setWidth32_concat_toNat _ _ (by decide)]; norm_num

/-- RXINFO as a number. -/
theorem State.rxinfoWord_toNat (s : State) : s.rxinfoWord.toNat = s.failReason.code.toNat * 256 + s.rxSeq.toNat := by
  rw [State.rxinfoWord, setWidth32_concat_toNat _ _ (by decide)]; norm_num

/-- PARAMS as a number. -/
theorem paramsWord_toNat :
    (paramsWord Config.params).toNat = 250 * 65536 + Config.endMarker.toNat * 256 + Config.startMarker.toNat := by
  rw [paramsWord, setWidth32_concat_toNat _ _ (by decide), toNat_concat]
  simp only [Config.params_maxBlock, Config.params_endMarker, Config.params_startMarker, BitVec.toNat_ofNat]
  omega

/-- READ of a TXBUF index. -/
theorem readReg_txbuf (P : Params) (s : State) {i : Nat} (h : i < 250) :
    readReg P s (0x100 + i) = (s.txbufByte i).setWidth 32 := by
  have e : 0x100 + i - 0x100 = i := by omega
  unfold readReg
  simp (disch := omega) only [if_neg, if_pos, e]

/-- READ of an RXBUF index. -/
theorem readReg_rxbuf (P : Params) (s : State) {i : Nat} (h : i < 250) :
    readReg P s (0x200 + i) = (s.rxbufByte i).setWidth 32 := by
  have e : 0x200 + i - 0x200 = i := by omega
  unfold readReg
  simp (disch := omega) only [if_neg, if_pos, e]

/-- READ of an index with nothing mapped (R263). -/
theorem readReg_unmapped (P : Params) (s : State) {a : Nat}
    (h : 0x00B ≤ a ∧ a ≤ 0x0FF ∨ 0x1FA ≤ a ∧ a ≤ 0x1FF ∨ 0x2FA ≤ a) : readReg P s a = 0 := by
  unfold readReg
  simp (disch := omega) only [if_neg]

end Sys2Proof.Machine
end

