-- ==== Sys2Proof/Laws/Run.lean ====
section
/-! SUPPORT. Runs of the machine: one edge at a time, and one run after another. -/

namespace Sys2Proof.Machine

/-- A run of one edge more. -/
theorem run_succ (k : Nat) {s t : State} (h : step s = .next t) :
    Host.Core.run Sys2Proof.core (k + 1) s = Host.Core.run Sys2Proof.core k t := by
  have h' : Sys2Proof.core.step s = .next t := h
  simp only [Host.Core.run, h']

/-- A run of `a + b` edges is a run of `b` edges from where `a` edges lead. -/
theorem run_add (a b : Nat) {s t : State} (h : Host.Core.run Sys2Proof.core a s = .next t) :
    Host.Core.run Sys2Proof.core (a + b) s = Host.Core.run Sys2Proof.core b t := by
  induction a generalizing s with
  | zero => cases h; rw [Nat.zero_add]
  | succ a ih =>
    cases hst : step s with
    | next u =>
      rw [run_succ _ hst] at h
      rw [show a + 1 + b = (a + b) + 1 by omega, run_succ _ hst, ih h]
    | fault e => cases e
    | refused r =>
      have h' : Sys2Proof.core.step s = .refused r := hst
      simp only [Host.Core.run, h'] at h
      cases h

end Sys2Proof.Machine
end

