-- ==== Sys2Proof/WellFormed.lean ====
section
/-! DEFINITION. Which operations have operands in the ranges the spec gives. A command's and a register operation's
fields are bounded by their widths (R100, R260); a codec function's operand is a byte array whose length has a range. -/

namespace Sys2Proof

/-- The operand ranges of R131, R132 (n 0..250), R134 (n 0..MAX_BLOCK), R135 (1 <= cnt <= 255) and R139 (5 <= cnt <= 255). -/
def Instr.wellFormed : Instr → Bool
  | .connect _ _ _ => true
  | .disconnect _ _ _ => true
  | .send _ _ _ => true
  | .receive _ _ _ => true
  | .ack _ _ _ => true
  | .reserved5 _ _ _ => true
  | .reserved6 _ _ _ => true
  | .reserved7 _ _ _ => true
  | .regRead _ => true
  | .regWrite _ _ => true
  | .checksum p => decide (p.length ≤ 250)
  | .ckOk p _ => decide (p.length ≤ 250)
  | .build p _ => decide (p.length ≤ Config.params.maxBlock)
  | .validate f => decide (1 ≤ f.length ∧ f.length ≤ 255)
  | .extract f _ => decide (5 ≤ f.length ∧ f.length ≤ 255)

end Sys2Proof
end

