-- ==== Sys2Proof/Tests/Slice0.lean ====
section
/-! SUPPORT. The model's own tests: the spec's vectors (95_test_vectors.md) and worked examples, one edge or one function
each, and a witness for the hypotheses of every statement of Certificates/Slice0/Obligations.lean that has any. The vectors
use the spec's test values of the OPEN parameters (92_eei_decisions.md D3, D4, D11). -/

namespace Sys2Proof.Tests

open Sys2Proof Sys2Proof.Machine

/-- The test values of the parameters: `START_MARKER = 0xA5`, `END_MARKER = 0x5A`, `SENTINEL[i] = 0xE0 + i`. -/
def testParams : Params :=
  { startMarker := 0xA5, endMarker := 0x5A, sentinel := Vector.ofFn fun i => 0xE0 + BitVec.ofNat 8 i.val
    maxBlock := 250, deadlineReset := 0 }

/-- The next state, where there is one. -/
def nextOf : Host.Outcome State Fault Refusal → Option State
  | .next s => some s
  | .fault _ => none
  | .refused _ => none

/-- A state that takes the sample `p` at its next edge. -/
def withSample (p : Ports) (s : State) : State := { s with inputs := [p] }

/-- What a command reports. -/
def report (s : State) : Fsm × Bool × RKind × Word16 := (s.state, s.done, s.rkind, s.result)

/-- A connected, idle FLC. -/
def idleConnected : State := { State.reset with connected := true }

/-- A memory that lists `vs` from index 0. -/
def listed (vs : List Byte) : Memory := Memory.writeFrom 255 [] 0 vs

/-! ## Encodings (vectors EN1 to EN14, R100, R112, R114) -/

theorem test_decode_connect : decodeCmd 0x00000 = .connect false 0 0 ∧ decodeCmd 0x00008 = .connect true 0 0 := by decide
theorem test_decode_disconnect : decodeCmd 0x00001 = .disconnect false 0 0 := by decide
/-- SEND 3, bit by bit: MAX 00000000, LEN 00000011, DBG 0, OP 010 (EN4); and EN3, EN5, EN6, EN14. -/
theorem test_decode_send :
    decodeCmd 0b00000000000000110010 = .send false 3 0 ∧ decodeCmd 0x00002 = .send false 0 0 ∧
    decodeCmd 0x00FA2 = .send false 250 0 ∧ decodeCmd 0x00FB2 = .send false 251 0 ∧
    decodeCmd 0xFF032 = .send false 3 255 := by decide
/-- RECEIVE 250, bit by bit: MAX 11111010, LEN 00000000, DBG 0, OP 011 (EN9); and EN7, EN8, EN13. -/
theorem test_decode_receive :
    decodeCmd 0b11111010000000000011 = .receive false 0 250 ∧ decodeCmd 0x00003 = .receive false 0 0 ∧
    decodeCmd 0x09003 = .receive false 0 9 ∧ decodeCmd 0xFA07B = .receive true 7 250 := by decide
theorem test_decode_ack : decodeCmd 0x00004 = .ack false 0 0 := by decide
theorem test_decode_reserved :
    decodeCmd 0x00005 = .reserved5 false 0 0 ∧ decodeCmd 0x00006 = .reserved6 false 0 0 ∧
    decodeCmd 0xFFFFF = .reserved7 true 255 255 := by decide
theorem test_encode :
    encodeCmd (.send false 3 0) = some 0x00032 ∧ encodeCmd (.receive true 7 250) = some 0xFA07B ∧
    encodeCmd (.checksum []) = none := by decide
theorem test_decode_reg :
    decodeReg true 0x006 50 = .regWrite 0x006 50 ∧ decodeReg false 0x007 1 = .regRead 0x007 := by decide
theorem test_table_word :
    decodeTableWord 24 0x32 = some (.send false 3 0) ∧ decodeTableWord 24 0x100000 = none := by decide
theorem test_fetch_word : decodeCmd (State.reset.withFetchWord 24 0x4).sample.cmdWord = .ack false 0 0 := by decide

/-! ## Ill-formed operands: one for each check of `Instr.wellFormed` -/

theorem test_illFormed_checksum : (Instr.checksum (List.replicate 251 0)).wellFormed = false := by decide +kernel
theorem test_illFormed_ckOk : (Instr.ckOk (List.replicate 251 0) 0).wellFormed = false := by decide +kernel
theorem test_illFormed_build : (Instr.build (List.replicate 251 0) 0).wellFormed = false := by decide +kernel
theorem test_illFormed_validate :
    (Instr.validate []).wellFormed = false ∧ (Instr.validate (List.replicate 256 0)).wellFormed = false := by decide +kernel
theorem test_illFormed_extract :
    (Instr.extract [0, 0, 0, 0] 0).wellFormed = false ∧
    (Instr.extract (List.replicate 256 0) 0).wellFormed = false := by decide +kernel
theorem test_wellFormed : (Instr.build (List.replicate 250 0) 0).wellFormed = true := by decide +kernel

/-! ## The codec (vectors CK1 to CK13, VA1 to VA16) -/

theorem test_checksum :
    codecChecksum [] = 0x00 ∧ codecChecksum [0x80] = 0x80 ∧ codecChecksum [1, 2, 3] = 0xFA ∧
    codecChecksum [0xFF, 0x01] = 0x00 ∧ codecChecksum [0xA5, 0x5A] = 0x01 ∧
    codecChecksum [0xFF, 0xFF, 0xFF, 0xFF] = 0x04 := by decide
theorem test_checksum_range :
    nextOf (exec (.checksum (List.replicate 251 0)) State.reset) = none ∧
    (nextOf (exec (.checksum [1, 2, 3]) State.reset)).map (·.codecOut) = some (.checksum 0xFA) :=
  ⟨by decide +kernel, by decide⟩
theorem test_ckOk :
    codecCkOk [1, 2, 3] 0xFA = true ∧ codecCkOk [1, 2, 3] 0x7A = false ∧ codecCkOk [] 0 = true ∧
    codecCkOk [] 1 = false := by decide
theorem test_build :
    codecBuild testParams [1, 2, 3] 0 = [0xA5, 0x08, 0x00, 0x01, 0x02, 0x03, 0xFA, 0x5A] ∧
    codecBuild testParams [] 0 = [0xA5, 0x05, 0x00, 0x00, 0x5A] ∧
    codecBuild testParams [0x80] 5 = [0xA5, 0x06, 0x05, 0x80, 0x80, 0x5A] ∧
    codecBuild testParams [0xFF, 0x01] 15 = [0xA5, 0x07, 0x0F, 0xFF, 0x01, 0x00, 0x5A] ∧
    codecBuild testParams [0xA5, 0x5A] 3 = [0xA5, 0x07, 0x03, 0xA5, 0x5A, 0x01, 0x5A] := by decide
theorem test_validate :
    validateReason testParams [0xA5, 0x08, 0, 1, 2, 3, 0xFA, 0x5A] = .none ∧
    validateReason testParams [0x00, 0x08, 0, 1, 2, 3, 0xFA, 0x5A] = .start ∧
    validateReason testParams [0xA5, 0x08, 0, 1, 2, 3, 0xFA, 0x00] = .endMarker ∧
    validateReason testParams [0xA5, 0x09, 0, 1, 2, 3, 0xFA, 0x5A] = .length ∧
    validateReason testParams [0xA5, 0x08, 0, 0, 2, 3, 0xFA, 0x5A] = .checksum ∧
    validateReason testParams [0xA5, 0x08, 0, 1, 2, 3, 0x7A, 0x5A] = .checksum ∧
    validateReason testParams [0xA5, 0x08, 0, 0, 3, 3, 0xFA, 0x5A] = .none ∧
    validateReason testParams [0xA5, 0x08, 0x3F, 1, 2, 3, 0xFA, 0x5A] = .none := by decide
theorem test_validate_short :
    validateReason testParams [0xA5, 0x01] = .endMarker ∧ validateReason testParams [0xA5, 0x04, 0x00, 0x5A] = .length ∧
    validateReason testParams [0xA5, 0x02] = .endMarker ∧ validateReason testParams [0xA5, 0x00] = .endMarker ∧
    validateReason testParams [0x00, 0x08, 0, 1, 2, 3, 0xFA, 0x00] = .start ∧
    validateReason testParams [0xA5, 0x08, 0, 1, 3, 3, 0xFA, 0x00] = .endMarker := by decide
theorem test_extract :
    codecExtract [0xA5, 0x09, 0x04, 9, 8, 7, 6, 0xE2, 0x5A] 250 = ([9, 8, 7, 6], 4, 0x04) ∧
    codecExtract [0xA5, 0x09, 0x04, 9, 8, 7, 6, 0xE2, 0x5A] 2 = ([9, 8], 2, 0x04) ∧
    codecExtract [0xA5, 0x09, 0x04, 9, 8, 7, 6, 0xE2, 0x5A] 0 = ([], 0, 0x04) := by decide

/-! ## CONNECT, DISCONNECT, SEND, ACK and reserved, one edge each (vectors SV1 to SV15) -/

theorem test_connect_answer :
    (openWaitArm { Ports.quiet with chanDone := true } { State.reset with state := .openWait, seq := 7, cntSent := 5 }).seq = 0 ∧
    report (openWaitArm { Ports.quiet with chanDone := true, chanCode := 7 } { State.reset with state := .openWait }) =
      (.idle, true, .transport, 0xFFF9) := by decide
theorem test_connect_accept :
    (nextOf (exec (.connect true 9 9) State.reset)).map report = some (.openWait, false, .ok, 0) := by decide
theorem test_disconnect_answer :
    report (closeWaitArm { Ports.quiet with chanDone := true, chanCode := 2 } { idleConnected with state := .closeWait }) =
      (.idle, true, .transport, 0xFFFE) ∧
    (closeWaitArm { Ports.quiet with chanDone := true, chanCode := 2 } { idleConnected with state := .closeWait }).connected = false ∧
    (closeWaitArm { Ports.quiet with chanDone := true } { idleConnected with state := .closeWait, cntSent := 3 }).cntSent = 3 := by
  decide
theorem test_send_turned_down :
    (nextOf (exec (.send false 0 0) State.reset)).map report = some (.idle, true, .notConnected, 0xFFFF) ∧
    (nextOf (exec (.send false 251 0) idleConnected)).map report = some (.idle, true, .size, 0xFFFE) := by decide
/-- SV4's frame at its accept edge, and SV5's short write (R188). -/
theorem test_send_frame :
    (State.startFrame testParams 3 { idleConnected with txbuf := listed [1, 2, 3] }).txframe =
      listed [0xA5, 0x08, 0x00, 0x01, 0x02, 0x03, 0xFA, 0x5A] ∧
    report (txArm { Ports.quiet with txFull := true, txAck := true } { idleConnected with state := .tx, txlen := 5 }) =
      (.idle, true, .transport, 0xFFFD) := by decide
/-- SV14: the last byte of a SEND with SEQ = 15; and a byte before the last. -/
theorem test_tx_last_byte :
    (txArm { Ports.quiet with txAck := true }
      { idleConnected with state := .tx, txlen := 5, txidx := 4, seq := 15, txframe := listed [0xA5, 5, 15, 0, 0x5A] }).seq = 0 ∧
    (txArm { Ports.quiet with txAck := true }
      { idleConnected with state := .tx, txlen := 5, txidx := 4, txframe := listed [0xA5, 5, 15, 0, 0x5A] }).txWire = [0x5A] ∧
    (txArm { Ports.quiet with txAck := true } { idleConnected with state := .tx, txlen := 5, txidx := 3 }).txidx = 4 := by
  decide
theorem test_ack :
    (nextOf (exec (.ack false 0 0) { State.reset with rkind := .illegal, result := 0xFFFE })).map report =
      some (.idle, true, .illegal, 0xFFFE) := by decide
theorem test_reserved :
    (nextOf (exec (.reserved5 false 0 0) { State.reset with rkind := .size, result := 0xFFFE })).map report =
      some (.idle, true, .illegal, 0xFFFE) := by decide

/-! ## RECEIVE, one edge each (vectors RV1 to RV19) -/

theorem test_receive_accept :
    (nextOf (exec (.receive false 0 9) State.reset)).map report = some (.idle, true, .notConnected, 0xFFFF) ∧
    (nextOf (exec (.receive false 0 9) { idleConnected with deadline := 99 })).map (fun s => (s.state, s.dl, s.maxsz)) =
      some (.hunt, 99, 9) := by decide
/-- RV2: DEADLINE 0 times out at the first wait edge; RV11: `rx_err` after the deadline's test. -/
theorem test_receive_timeout :
    report (waitArm testParams { Ports.quiet with rxValid := true, rxData := 0xA5 } { idleConnected with state := .hunt }) =
      (.idle, true, .timeout, 0xFFFC) ∧
    report (waitArm testParams { Ports.quiet with rxErr := true, rxValid := true } { idleConnected with state := .body, dl := 9 }) =
      (.idle, true, .transport, 0xFFFD) := by decide
/-- The three acquisition states, one byte each (R215 to R217). -/
theorem test_receive_bytes :
    (huntByte testParams 0xA5 { idleConnected with state := .hunt }).state = .len ∧
    (huntByte testParams 0x13 { idleConnected with state := .hunt }).state = .hunt ∧
    (lenByte 2 { idleConnected with state := .len, rxcount := 1 }).state = .check ∧
    (lenByte 3 { idleConnected with state := .len, rxcount := 1 }).state = .body ∧
    (bodyByte 0x5A { idleConnected with state := .body, rxcount := 7, rxlen := 8 }).state = .check ∧
    (bodyByte 0xA5 { idleConnected with state := .body, rxcount := 6, rxlen := 8 }).state = .body := by decide
/-- RV13 and RV17: the CHECK edge of a good and of a bad candidate. -/
theorem test_receive_check :
    (let t := checkArm testParams
        { idleConnected with state := .check, rxcount := 6, maxsz := 9, framebuf := listed [0xA5, 6, 0x3F, 0x10, 0xF0, 0x5A] }
     (report t, t.rxSeq, t.rxbuf, t.cntGood) = ((.idle, true, .data, 1), 0x3F, [(0, 0x10)], 1)) ∧
    (let t := checkArm testParams
        { idleConnected with state := .check, rxcount := 8, maxsz := 0, framebuf := listed [0xA5, 8, 0, 1, 3, 3, 0xFA, 0x5A] }
     (report t, t.failReason, t.cntBad) = ((.idle, true, .badFrame, 10), .checksum, 1) ∧
     t.rxbuf = listed [0xE0, 0xE1, 0xE2, 0xE3, 0xE4, 0xE5, 0xE6, 0xE7, 0xE8, 0xE9]) := by decide

/-! ## The register port (vectors RG1 to RG15) -/

theorem test_reg_read :
    readReg testParams State.reset 0x000 = 0 ∧ readReg testParams State.reset 0x00A = 0x00FA5AA5 ∧
    readReg testParams { idleConnected with done := true } 0x000 = 5 ∧
    readReg testParams { State.reset with rkind := .data, result := 3 } 0x007 = 0x00010003 ∧
    readReg testParams { State.reset with failReason := .checksum } 0x008 = 0x00000400 ∧
    readReg testParams { idleConnected with state := .tx } 0x000 = 0x1B ∧
    readReg testParams { idleConnected with state := .hunt } 0x000 = 0x23 ∧
    readReg testParams State.reset 0x1FA = 0 ∧ readReg testParams State.reset 0x3FF = 0 := by decide
theorem test_reg_write :
    (writeReg State.reset 0x100 0x1234).txbuf = [(0, 0x34)] ∧
    (writeReg { State.reset with state := .tx } 0x100 0x77).txbuf = [] ∧
    (writeReg { State.reset with state := .tx } 0x006 0xFFFFFFFF).deadline = 0xFFFFFFFF ∧
    (writeReg State.reset 0x007 0).result = 0 := by decide

/-! ## Witnesses: states and operands that meet the hypotheses of each statement -/

/-- The shortest good frame (R98), for this FLC's markers. -/
def shortFrame : List Byte := [Config.startMarker, 0x05, 0x00, 0x00, Config.endMarker]

/-- The shortest good frame passes VALIDATE's four checks. -/
theorem shortFrame_reason (f : Nat → Byte) (h0 : f 0 = Config.startMarker) (h1 : f 1 = 5) (h3 : f 3 = 0)
    (h4 : f 4 = Config.endMarker) : frameReason Config.params f 5 = .none := by
  unfold frameReason
  rw [if_neg (by simp [h0]), if_neg (by simp [h4]), if_neg (by simp [h1]), if_neg (by simp [h3, sumOver])]

theorem shortFrame_valid : validateReason Config.params shortFrame = .none := by
  rw [validateReason_eq (g := (shortFrame.getD · 0)) (fun i hi => by simp [List.getD_eq_getElem?_getD, hi]) (by decide)]
  exact shortFrame_reason _ rfl rfl rfl rfl

/-- An FLC in state `f`, connected, at an edge without reset that takes the sample `p`. -/
def at_ (f : Fsm) (p : Ports) : State := withSample p { idleConnected with state := f, txlen := 5, dl := 1, rxlen := 5 }

theorem witness_DecodeOfEncodeIsTheOperation :
    encodeCmd (.send true 255 255) = some 0xFFFFA ∧ encodeReg (.regWrite 0x3FF 0xFFFFFFFF) = some (true, 0x3FF, 0xFFFFFFFF) := by
  decide
theorem witness_EveryCommandWordHasOneCommand : encodeCmd (.reserved7 true 255 255) = some 0xFFFFF := by decide
theorem witness_StepRunsTheOfferedCommand :
    let s := withSample { Ports.offering 0x00032 with regWr := true, regAddr := 0x006, regWdata := 9 } idleConnected
    s.state = .idle ∧ s.sample.rst = false ∧ s.sample.cmdValid = true ∧
    ∃ t, exec (decodeCmd s.sample.cmdWord) s = .next t := ⟨rfl, rfl, rfl, _, rfl⟩
theorem witness_FetchedWordIsRunNext :
    decodeTableWord 24 0 = some (.connect false 0 0) ∧ decodeTableWord 24 0xFFFFF = some (.reserved7 true 255 255) := by decide
theorem witness_RegisterPortJoinsEveryArm :
    let p := { Ports.quiet with regWr := true, regAddr := 0x1F9, regWdata := 7 }
    (withSample p idleConnected).sample.rst = false ∧ (∃ u, step (withSample p idleConnected) = .next u) ∧
    (at_ .tx p).sample.rst = false ∧ ∃ u, step (at_ .tx p) = .next u := ⟨rfl, ⟨_, rfl⟩, rfl, _, rfl⟩
theorem witness_BusyFlcTurnsCommandsAway :
    encodeCmd (.connect false 0 0) = some 0 ∧ (at_ .openWait Ports.quiet).state ≠ .idle := by decide
theorem witness_CommandPortIsReadAtAcceptanceOnly :
    (at_ .hunt Ports.quiet).state ≠ .idle ∧ Ports.quiet.cmdValid = false := by decide
theorem witness_TransitionsAreTheListedOnes :
    (∃ t, step (at_ .idle (Ports.offering 3)) = .next t) ∧ (∃ t, step (at_ .openWait Ports.quiet) = .next t) ∧
    (∃ t, step (at_ .closeWait Ports.quiet) = .next t) ∧ (∃ t, step (at_ .tx Ports.quiet) = .next t) ∧
    (∃ t, step (at_ .hunt Ports.quiet) = .next t) ∧ (∃ t, step (at_ .len Ports.quiet) = .next t) ∧
    (∃ t, step (at_ .body Ports.quiet) = .next t) ∧ (∃ t, step (at_ .check Ports.quiet) = .next t) ∧
    ∀ f, (at_ f Ports.quiet).sample.rst = false :=
  ⟨⟨_, rfl⟩, ⟨_, rfl⟩, ⟨_, rfl⟩, ⟨_, rfl⟩, ⟨_, rfl⟩, ⟨_, rfl⟩, ⟨_, rfl⟩, ⟨_, rfl⟩, fun _ => rfl⟩
theorem witness_DoneMarksCompletionEdges :
    (at_ .idle (Ports.offering 4)).sample.rst = false ∧ ∃ t, step (at_ .idle (Ports.offering 4)) = .next t := ⟨rfl, _, rfl⟩
theorem witness_ResetEdgeGivesEveryElementItsResetValue :
    (at_ .tx { Ports.quiet with rst := true, regWr := true, regAddr := 0x006 }).sample.rst = true := rfl
theorem witness_OutputsAfterAResetEdge :
    (at_ .hunt { Ports.quiet with rst := true }).sample.rst = true ∧
    ∃ t, step (at_ .hunt { Ports.quiet with rst := true }) = .next t := ⟨rfl, _, rfl⟩
theorem witness_ConnectAsksTheChannelToOpen : cmdOp 0xFFFF8 = 0 ∧ State.reset.state = .idle := by decide
theorem witness_DisconnectAsksTheChannelToClose : cmdOp 0xFFFF9 = 1 ∧ idleConnected.state = .idle := by decide
theorem witness_OpenWaitTakesTheChannelsAnswer :
    ∀ p ∈ [Ports.quiet, { Ports.quiet with chanDone := true }, { Ports.quiet with chanDone := true, chanCode := 255 }],
      (at_ .openWait p).state = .openWait ∧ (at_ .openWait p).sample.rst = false := by decide
theorem witness_CloseWaitTakesTheChannelsAnswer :
    ∀ p ∈ [Ports.quiet, { Ports.quiet with chanDone := true }, { Ports.quiet with chanDone := true, chanCode := 1 }],
      (at_ .closeWait p).state = .closeWait ∧ (at_ .closeWait p).sample.rst = false := by decide
theorem witness_SendChecksConnectionThenSize :
    State.reset.state = .idle ∧ State.reset.connected = false ∧
    idleConnected.state = .idle ∧ idleConnected.connected = true ∧ 250 < (251 : Byte).toNat := by decide
theorem witness_SendBuildsTheFrameAndStartsTx :
    idleConnected.state = .idle ∧ idleConnected.connected = true ∧ (250 : Byte).toNat ≤ 250 ∧ (0 : Byte).toNat ≤ 250 := by decide
theorem witness_TxHandsOverOneByteAnEdge :
    ∀ p ∈ [Ports.quiet, { Ports.quiet with txAck := true }, { Ports.quiet with txAck := true, txFull := true }],
      (at_ .tx p).state = .tx ∧ (at_ .tx p).sample.rst = false := by decide
theorem witness_AckOnlyRaisesDone : cmdOp 0xFFFFC = 4 ∧ idleConnected.state = .idle := by decide
theorem witness_ReservedOpcodesReportIllegal :
    cmdOp 0xFFFFD = 5 ∧ cmdOp 0x00006 = 6 ∧ cmdOp 0xFFFFF = 7 ∧ idleConnected.state = .idle := by decide
theorem witness_ReceiveTakesTheDeadlineAndHunts :
    State.reset.state = .idle ∧ State.reset.connected = false ∧ idleConnected.state = .idle ∧ idleConnected.connected = true := by
  decide
theorem witness_TimeoutEndsTheReceive :
    let s := { at_ .body { Ports.quiet with rxValid := true } with elapsed := 1 }
    (s.state = .hunt ∨ s.state = .len ∨ s.state = .body) ∧ s.sample.rst = false ∧ s.dl.toNat ≤ s.elapsed.toNat := by decide
theorem witness_WaitEdgeWithoutAByte :
    ∀ p ∈ [{ Ports.quiet with rxErr := true, rxValid := true }, { Ports.quiet with tick := true }],
      (at_ .hunt p).state = .hunt ∧ (at_ .hunt p).sample.rst = false ∧ (at_ .hunt p).elapsed.toNat < (at_ .hunt p).dl.toNat ∧
      ((at_ .hunt p).sample.rxErr = true ∨ (at_ .hunt p).sample.rxErr = false ∧ (at_ .hunt p).sample.rxValid = false) := by
  decide
theorem witness_HuntScansForTheStartMarker (b : Byte) :
    let s := at_ .hunt { Ports.quiet with rxValid := true, rxData := b }
    s.state = .hunt ∧ s.sample.rst = false ∧ s.elapsed.toNat < s.dl.toNat ∧ s.sample.rxErr = false ∧ s.sample.rxValid = true ∧
    s.sample.rxData = b ∧ Config.endMarker ≠ Config.startMarker := ⟨rfl, rfl, Nat.zero_lt_one, rfl, rfl, rfl, Config.endMarker_ne⟩
theorem witness_LenTakesTheDeclaredLength :
    ∀ b ∈ [(2 : Byte), 3, 255],
      let s := at_ .len { Ports.quiet with rxValid := true, rxData := b }
      s.state = .len ∧ s.sample.rst = false ∧ s.elapsed.toNat < s.dl.toNat ∧ s.sample.rxErr = false ∧ s.sample.rxValid = true := by
  decide
theorem witness_BodyCollectsTheDeclaredBytes :
    let s := { at_ .body { Ports.quiet with rxValid := true } with rxcount := 254, rxlen := 255 }
    s.state = .body ∧ s.sample.rst = false ∧ s.elapsed.toNat < s.dl.toNat ∧ s.sample.rxErr = false ∧ s.sample.rxValid = true ∧
    s.rxcount.toNat ≤ 254 := by decide
theorem witness_CheckOfAGoodFrame :
    let s := { at_ .check Ports.quiet with framebuf := listed shortFrame, rxcount := 5 }
    s.state = .check ∧ s.sample.rst = false ∧ frameReason Config.params s.framebufByte s.rxcount.toNat = .none :=
  ⟨rfl, rfl, shortFrame_reason _ rfl rfl rfl rfl⟩
theorem witness_CheckOfABadFrame :
    let s := { at_ .check Ports.quiet with rxcount := 2 }
    s.state = .check ∧ s.sample.rst = false ∧ 1 ≤ s.rxcount.toNat ∧
    frameReason Config.params s.framebufByte s.rxcount.toNat ≠ .none :=
  ⟨rfl, rfl, by decide, fun h => absurd (frameReason_none h).1 (by decide)⟩
theorem witness_WiresGrowExactlyAtTransfers :
    (at_ .tx { Ports.quiet with txAck := true }).sample.rst = false ∧
    (∃ t, step (at_ .tx { Ports.quiet with txAck := true }) = .next t) ∧
    (at_ .hunt { Ports.quiet with rxValid := true }).sample.rst = false ∧
    ∃ t, step (at_ .hunt { Ports.quiet with rxValid := true }) = .next t := ⟨rfl, ⟨_, rfl⟩, rfl, _, rfl⟩
theorem witness_RegReadShowsTheRegisterMap :
    (0x1F9 : RegIndex).toNat = 0x100 + 249 ∧ (0x2F9 : RegIndex).toNat = 0x200 + 249 ∧
    (0x00B : RegIndex).toNat = 0x00B ∧ (0x1FA : RegIndex).toNat = 0x1FA ∧ (0x2FA : RegIndex).toNat = 0x2FA := by decide
theorem witness_RegWriteReachesDeadlineAndTxbufOnly :
    (0x100 ≤ (0x1F9 : RegIndex).toNat ∧ (0x1F9 : RegIndex).toNat ≤ 0x1F9 ∧ State.reset.state = .idle) ∧
    ((0x1FA : RegIndex) ≠ 0x006 ∧
      ¬ (0x100 ≤ (0x1FA : RegIndex).toNat ∧ (0x1FA : RegIndex).toNat ≤ 0x1F9 ∧ State.reset.state = .idle)) ∧
    (at_ .tx Ports.quiet).state ≠ .idle := by decide
theorem witness_WriteAtTheSendEdgeMissesTheFrame :
    let s := withSample { Ports.offering 0x00FA2 with regWr := true, regAddr := 0x1F9 } idleConnected
    s.state = .idle ∧ s.connected = true ∧ (250 : Byte).toNat ≤ 250 ∧ s.sample.offersCmd (.send false 250 0) ∧ 249 < 250 ∧
    s.sample.regWr = true ∧ s.sample.regAddr.toNat = 0x100 + 249 :=
  ⟨rfl, rfl, by decide, ⟨rfl, rfl, by decide⟩, by decide, rfl, rfl⟩
theorem witness_WriteAtTheReceiveEdgeMissesTheDeadline :
    let s := withSample { Ports.offering 0xFA003 with regWr := true, regAddr := 0x006 } idleConnected
    s.state = .idle ∧ s.connected = true ∧ s.sample.offersCmd (.receive false 0 250) ∧ s.sample.regWr = true ∧
    s.sample.regAddr = 0x006 := ⟨rfl, rfl, ⟨rfl, rfl, by decide⟩, rfl, rfl⟩
theorem witness_codec_lengths :
    (List.replicate 250 (0 : Byte)).length ≤ 250 ∧ 250 < (List.replicate 251 (0 : Byte)).length ∧
    255 < (List.replicate 256 (0 : Byte)).length ∧ 1 ≤ [(0 : Byte)].length ∧ (List.replicate 255 (0 : Byte)).length ≤ 255 :=
  ⟨by rw [List.length_replicate], by rw [List.length_replicate]; decide, by rw [List.length_replicate]; decide, by decide,
    by rw [List.length_replicate]⟩
theorem witness_ExtractTakesTheTruncatedPayload :
    (shortFrame.length ≤ 255 ∧ frameReason Config.params (shortFrame.getD · 0) shortFrame.length = .none) ∧
    (5 ≤ [(0 : Byte), 0, 0, 0, 0].length ∧ [(0 : Byte), 0, 0, 0, 0].length ≤ 255 ∧
      frameReason Config.params ([(0 : Byte), 0, 0, 0, 0].getD · 0) [(0 : Byte), 0, 0, 0, 0].length ≠ .none) ∧
    [(0 : Byte), 0, 0, 0].length < 5 :=
  ⟨⟨by decide, shortFrame_reason _ rfl rfl rfl rfl⟩,
    ⟨by decide, by decide, fun h => absurd (frameReason_none h).2.2.2.1 (by decide)⟩, by decide⟩
theorem witness_BuiltFrameValidatesAndExtracts :
    (List.replicate 250 (0xFF : Byte)).length ≤ 250 ∧ (List.replicate 250 (0xFF : Byte)).length ≤ 250 ∧
    ([] : List Byte).length ≤ 0 := ⟨by rw [List.length_replicate], by rw [List.length_replicate], by decide⟩
theorem witness_SingleBitErrorIsCaughtOutsideTheSequenceByte :
    let f := [(0xA5 : Byte), 0x08, 0x00, 0x01, 0x02, 0x03, 0xFA, 0x5A]
    codecValidate testParams f = (true, .none) ∧ f[0]? = some 0xA5 ∧ f[1]? = some 8 ∧ f[2]? = some 0 ∧ f[3]? = some 1 ∧
    f[6]? = some 0xFA ∧ f[7]? = some 0x5A := by decide
theorem witness_EveryEdgeKeepsTheBuffersCanonical :
    (at_ .tx Ports.quiet).buffersCanonical ∧ ∃ t, step (at_ .tx Ports.quiet) = .next t := ⟨Memory.wf_reset, _, rfl⟩
/-- A state in the middle of a RECEIVE that keeps every promise. -/
theorem witness_StepKeepsEveryPromise :
    let s := { at_ .len Ports.quiet with framebuf := listed [Config.startMarker], rxcount := 1 }
    SafeState s ∧ ∃ t, step s = .next t := by
  refine ⟨⟨⟨Memory.wf_nil _, Memory.wf_nil _, Memory.wf_nil _, Memory.wf_write 0 _ (Memory.wf_nil _)⟩, ?_, ⟨rfl, ?_, rfl⟩, ?_, rfl,
    ?_, ?_, ?_⟩, _, rfl⟩
  · intro h; cases h
  · intro i hi
    have h0 : i = 0 := Nat.lt_one_iff.mp hi
    subst h0; rfl
  · intro _; rfl
  · intro _; decide
  · intro h; cases h
  · intro h; cases h
theorem witness_ConnectedChangesByTheChannelsAnswerOnly :
    let s := at_ .closeWait { Ports.quiet with chanDone := true }
    s.sample.rst = false ∧ ∃ t, step s = .next t ∧ t.connected ≠ s.connected := ⟨rfl, _, rfl, by decide⟩
theorem witness_SeqChangesByConnectAndSendOnly :
    let s := { at_ .tx { Ports.quiet with txAck := true } with txidx := 4 }
    s.sample.rst = false ∧ ∃ t, step s = .next t := ⟨rfl, _, rfl⟩
theorem witness_CountersCountTheirEdgesOnly :
    let s := { at_ .hunt Ports.quiet with elapsed := 1 }
    s.sample.rst = false ∧ ∃ t, step s = .next t := ⟨rfl, _, rfl⟩
/-- An edge that completes nothing; HUNT where ELAPSED meets DL, and a byte offered is not consumed; TX where `tx_full` refuses. -/
theorem witness_EachElementIsWrittenAtItsOwnEdgesOnly :
    let r := { at_ .hunt { Ports.quiet with rxValid := true } with elapsed := 1 }
    let x := at_ .tx { Ports.quiet with txAck := true, txFull := true }
    ((at_ .hunt Ports.quiet).sample.rst = false ∧ ∃ t, step (at_ .hunt Ports.quiet) = .next t ∧ t.done = false) ∧
    (r.sample.rst = false ∧ r.state ≠ .check ∧ r.state ≠ .len ∧
      ¬ ((r.state = .hunt ∨ r.state = .len ∨ r.state = .body) ∧ r.elapsed.toNat < r.dl.toNat) ∧
      ¬ (r.rxReady = true ∧ r.sample.rxValid = true ∧ r.sample.rxErr = false) ∧
      ∃ t, step r = .next t ∧ ¬ (r.state = .idle ∧ t.state = .hunt)) ∧
    (x.sample.rst = false ∧ ¬ (x.state = .tx ∧ x.sample.txAck = true ∧ x.sample.txFull = false) ∧
      ∃ t, step x = .next t ∧ ¬ (x.state = .idle ∧ t.state = .tx)) :=
  ⟨⟨rfl, _, rfl, rfl⟩, ⟨rfl, by decide, by decide, by decide, by decide, _, rfl, by decide⟩, rfl, by decide, _, rfl, by decide⟩
theorem witness_IdleEdgeWithoutACommandChangesNothing :
    let s := { at_ .idle Ports.quiet with elapsed := 9, txidx := 4, rxcount := 3, done := true }
    s.state = .idle ∧ s.sample.rst = false ∧ s.sample.cmdValid = false := by decide
theorem witness_SendPutsItsFrameOnTheWire :
    let p := Ports.offering 0x00002
    let ps := List.replicate 5 { Ports.quiet with txAck := true }
    let s := { idleConnected with inputs := p :: ps ++ [] }
    s.state = .idle ∧ s.connected = true ∧ (0 : Byte).toNat ≤ 250 ∧ s.inputs = p :: ps ++ [] ∧ p.offersCmd (.send false 0 0) ∧
    ps.length = (0 : Byte).toNat + 5 ∧ ∀ q ∈ ps, q.takesByte := by
  refine ⟨rfl, rfl, by decide, rfl, ⟨rfl, rfl, by decide⟩, rfl, ?_⟩
  intro q hq
  rw [List.eq_of_mem_replicate hq]
  exact ⟨rfl, rfl, rfl⟩
/-- The sample that offers the byte `b`. -/
def offeringByte (b : Byte) : Ports := { Ports.quiet with rxValid := true, rxData := b, tick := true }
theorem witness_ReceiveReturnsTheFirstGoodFrame :
    let p := Ports.offering 0x01003
    let g := [Config.endMarker]
    let ps := (g ++ shortFrame).map offeringByte
    let s := { idleConnected with deadline := 6, inputs := p :: ps ++ Ports.quiet :: [] }
    s.state = .idle ∧ s.connected = true ∧ s.inputs = p :: ps ++ Ports.quiet :: [] ∧ p.offersCmd (.receive false 0 1) ∧
    List.Forall₂ (fun b q => Ports.offersByte b q) (g ++ shortFrame) ps ∧ Ports.quiet.rst = false ∧
    (∀ b ∈ g, b ≠ Config.startMarker) ∧ shortFrame.length ≤ 255 ∧ validateReason Config.params shortFrame = .none ∧
    g.length + shortFrame.length ≤ s.deadline.toNat := by
  refine ⟨rfl, rfl, rfl, ⟨rfl, rfl, by decide⟩, ?_, rfl, ?_, by decide, shortFrame_valid, by decide⟩
  · rw [List.forall₂_map_right_iff]
    exact List.forall₂_same.mpr fun b _ => ⟨rfl, rfl, rfl, rfl⟩
  · intro b hb
    rw [List.mem_singleton.mp hb]
    exact Config.endMarker_ne
theorem witness_ReceiveOnASilentChannelTimesOut :
    let p := Ports.offering 0x01003
    let ps := [{ Ports.quiet with tick := true }]
    let s := { idleConnected with deadline := 1, inputs := p :: ps ++ Ports.quiet :: [] }
    s.state = .idle ∧ s.connected = true ∧ s.inputs = p :: ps ++ Ports.quiet :: [] ∧ p.offersCmd (.receive false 0 1) ∧
    ps.length = s.deadline.toNat ∧ (∀ q ∈ ps, q.silentTick) ∧ Ports.quiet.rst = false := by
  refine ⟨rfl, rfl, rfl, ⟨rfl, rfl, by decide⟩, rfl, ?_, rfl⟩
  intro q hq
  rw [List.mem_singleton.mp hq]
  exact ⟨rfl, rfl, rfl, rfl⟩

end Sys2Proof.Tests
end

section
/-! SUPPORT. What the FSM arm of an edge can do, said once with its guards: one effect per branch (41_session.md rules
R170 to R194; 42_receive.md rules R210 to R221). The statements about the elements of 10_state.md are case splits over it. -/

namespace Sys2Proof.Machine

/-- The offered byte is consumed at an edge that counts its tick: it becomes byte `i` of the candidate, which then has
`i + 1` bytes (R212, R214 to R217). -/
abbrev State.collect (p : Ports) (i : Nat) (s : State) : State :=
  { ((s.countElapsed p.tick).takeByte p.rxData).storeCandidate i p.rxData with rxcount := BitVec.ofNat 8 (i + 1) }

/-- What the FSM arm of the state before an edge can leave (R170, item 2): one constructor per branch of R172 to R222, named
after what the edge does, with the branch's guard and the state it leaves. -/
inductive ArmEffect (p : Ports) (s : State) : State → Prop
  /-- IDLE without a command (R172). -/
  | idleWait (hs : s.state = .idle) (hv : p.cmdValid = false) : ArmEffect p s s.stay
  /-- CONNECT accepted (R175). -/
  | connect (hs : s.state = .idle) (hv : p.cmdValid = true) (ho : cmdOp p.cmdWord = 0) : ArmEffect p s (s.goto .openWait)
  /-- DISCONNECT accepted (R180). -/
  | disconnect (hs : s.state = .idle) (hv : p.cmdValid = true) (ho : cmdOp p.cmdWord = 1) :
      ArmEffect p s (s.goto .closeWait)
  /-- SEND or RECEIVE without a session (R185, R210). -/
  | notConnected (hs : s.state = .idle) (hv : p.cmdValid = true) (ho : cmdOp p.cmdWord = 2 ∨ cmdOp p.cmdWord = 3)
      (hc : s.connected = false) : ArmEffect p s (s.complete .notConnected (negResult 1))
  /-- SEND of too many bytes (R186). -/
  | tooLong (hs : s.state = .idle) (hv : p.cmdValid = true) (ho : cmdOp p.cmdWord = 2) (hc : s.connected = true)
      (hl : 250 < (cmdLen p.cmdWord).toNat) : ArmEffect p s (s.complete .size (negResult 2))
  /-- SEND accepted (R187). -/
  | startFrame (hs : s.state = .idle) (hv : p.cmdValid = true) (ho : cmdOp p.cmdWord = 2) (hc : s.connected = true)
      (hl : (cmdLen p.cmdWord).toNat ≤ 250) :
      ArmEffect p s
        { s.goto .tx with
          txframe := Memory.writeFrom txframeSize s.txframe 0
            (codecBuild Config.params (s.payload (cmdLen p.cmdWord).toNat) s.seq)
          txlen := BitVec.ofNat 8 (buildLength (s.payload (cmdLen p.cmdWord).toNat))
          txidx := 0 }
  /-- RECEIVE accepted (R211). -/
  | startHunt (hs : s.state = .idle) (hv : p.cmdValid = true) (ho : cmdOp p.cmdWord = 3) (hc : s.connected = true) :
      ArmEffect p s { s.goto .hunt with dl := s.deadline, elapsed := 0, maxsz := cmdMax p.cmdWord, rxcount := 0 }
  /-- ACK (R192). -/
  | ack (hs : s.state = .idle) (hv : p.cmdValid = true) (ho : cmdOp p.cmdWord = 4) : ArmEffect p s s.finish
  /-- A reserved opcode (R194). -/
  | illegal (hs : s.state = .idle) (hv : p.cmdValid = true) (ho : 5 ≤ (cmdOp p.cmdWord).toNat) :
      ArmEffect p s (s.completeKeep .illegal)
  /-- OPEN_WAIT without an answer (R178). -/
  | openUnanswered (hs : s.state = .openWait) (hd : p.chanDone = false) : ArmEffect p s s.stay
  /-- OPEN_WAIT with answer 0 (R176, R177). -/
  | opened (hs : s.state = .openWait) (hd : p.chanDone = true) (hc : p.chanCode = 0) :
      ArmEffect p s (s.openSession.complete .ok 0)
  /-- OPEN_WAIT with a failure code (R176). -/
  | openFailed (hs : s.state = .openWait) (hd : p.chanDone = true) (hc : p.chanCode ≠ 0) :
      ArmEffect p s (s.complete .transport (negResult p.chanCode.toNat))
  /-- CLOSE_WAIT without an answer (R182). -/
  | closeUnanswered (hs : s.state = .closeWait) (hd : p.chanDone = false) : ArmEffect p s s.stay
  /-- CLOSE_WAIT with answer 0 (R181). -/
  | closed (hs : s.state = .closeWait) (hd : p.chanDone = true) (hc : p.chanCode = 0) :
      ArmEffect p s (({ s with connected := false } : State).complete .ok 0)
  /-- CLOSE_WAIT with a failure code (R181). -/
  | closeFailed (hs : s.state = .closeWait) (hd : p.chanDone = true) (hc : p.chanCode ≠ 0) :
      ArmEffect p s (({ s with connected := false } : State).complete .transport (negResult p.chanCode.toNat))
  /-- TX refused by the channel (R188, R189). -/
  | txRefused (hs : s.state = .tx) (hf : p.txFull = true) : ArmEffect p s (s.complete .transport (negResult 3))
  /-- TX hands over its last byte (R190). -/
  | txLast (hs : s.state = .tx) (hf : p.txFull = false) (ha : p.txAck = true) (hi : s.txidx.toNat + 1 = s.txlen.toNat) :
      ArmEffect p s (({ s.putByte with cntSent := bumpCounter s.cntSent, seq := nextSeq s.seq } : State).complete .ok 0)
  /-- TX hands over an earlier byte (R188). -/
  | txNext (hs : s.state = .tx) (hf : p.txFull = false) (ha : p.txAck = true) (hi : s.txidx.toNat + 1 ≠ s.txlen.toNat) :
      ArmEffect p s ({ s.putByte with txidx := BitVec.ofNat 8 (s.txidx.toNat + 1) } : State).stay
  /-- TX not acknowledged (R188). -/
  | txWait (hs : s.state = .tx) (hf : p.txFull = false) (ha : p.txAck = false) : ArmEffect p s s.stay
  /-- HUNT, LEN or BODY at its deadline (R213). -/
  | timeOut (hs : s.state = .hunt ∨ s.state = .len ∨ s.state = .body) (hd : s.dl.toNat ≤ s.elapsed.toNat) :
      ArmEffect p s (({ s with cntTimeout := bumpCounter s.cntTimeout } : State).complete .timeout (negResult 4))
  /-- HUNT, LEN or BODY meets a receive error (R214). -/
  | rxError (hs : s.state = .hunt ∨ s.state = .len ∨ s.state = .body) (hd : s.elapsed.toNat < s.dl.toNat)
      (he : p.rxErr = true) : ArmEffect p s ((s.countElapsed p.tick).complete .transport (negResult 3))
  /-- HUNT, LEN or BODY is offered no byte (R214). -/
  | rxWait (hs : s.state = .hunt ∨ s.state = .len ∨ s.state = .body) (hd : s.elapsed.toNat < s.dl.toNat)
      (he : p.rxErr = false) (hv : p.rxValid = false) : ArmEffect p s (s.countElapsed p.tick).stay
  /-- HUNT consumes a byte that is no start marker (R215). -/
  | huntSkip (hs : s.state = .hunt) (hd : s.elapsed.toNat < s.dl.toNat) (he : p.rxErr = false) (hv : p.rxValid = true)
      (hb : p.rxData ≠ Config.startMarker) : ArmEffect p s ((s.countElapsed p.tick).takeByte p.rxData).stay
  /-- HUNT consumes the start marker (R215). -/
  | huntFound (hs : s.state = .hunt) (hd : s.elapsed.toNat < s.dl.toNat) (he : p.rxErr = false) (hv : p.rxValid = true)
      (hb : p.rxData = Config.startMarker) : ArmEffect p s ((s.collect p 0).goto .len)
  /-- LEN consumes a length byte that leaves nothing to collect (R216). -/
  | lenShort (hs : s.state = .len) (hd : s.elapsed.toNat < s.dl.toNat) (he : p.rxErr = false) (hv : p.rxValid = true)
      (hb : p.rxData.toNat ≤ 2) : ArmEffect p s (({ s.collect p 1 with rxlen := p.rxData } : State).goto .check)
  /-- LEN consumes a length byte of 3 or more (R216). -/
  | lenLong (hs : s.state = .len) (hd : s.elapsed.toNat < s.dl.toNat) (he : p.rxErr = false) (hv : p.rxValid = true)
      (hb : 2 < p.rxData.toNat) : ArmEffect p s (({ s.collect p 1 with rxlen := p.rxData } : State).goto .body)
  /-- BODY consumes the candidate's last byte (R217). -/
  | bodyLast (hs : s.state = .body) (hd : s.elapsed.toNat < s.dl.toNat) (he : p.rxErr = false) (hv : p.rxValid = true)
      (hn : s.rxcount.toNat + 1 = s.rxlen.toNat) : ArmEffect p s ((s.collect p s.rxcount.toNat).goto .check)
  /-- BODY consumes an earlier byte (R217). -/
  | bodyNext (hs : s.state = .body) (hd : s.elapsed.toNat < s.dl.toNat) (he : p.rxErr = false) (hv : p.rxValid = true)
      (hn : s.rxcount.toNat + 1 ≠ s.rxlen.toNat) : ArmEffect p s ((s.collect p s.rxcount.toNat).goto .body)
  /-- CHECK passes the candidate (R220). -/
  | good (hs : s.state = .check) (hk : validateReason Config.params s.candidate = .none) :
      ArmEffect p s
        (({ s with
            rxbuf := Memory.writeFrom rxbufSize s.rxbuf 0 (extractPayload s.candidate s.maxsz.toNat)
            rxSeq := extractSeq s.candidate
            failReason := .none
            cntGood := bumpCounter s.cntGood } : State).complete .data
          (BitVec.ofNat 16 (extractCount s.candidate s.maxsz.toNat)))
  /-- CHECK fails the candidate (R221). -/
  | bad (hs : s.state = .check) (hk : validateReason Config.params s.candidate ≠ .none) :
      ArmEffect p s
        (({ s with
            rxbuf := Memory.writeFrom rxbufSize s.rxbuf 0 Config.params.sentinel.toList
            failReason := validateReason Config.params s.candidate
            cntBad := bumpCounter s.cntBad } : State).complete .badFrame 10)

/-- An IDLE edge has one of the listed effects (R172). -/
theorem ArmEffect.of_idle {p : Ports} {s u : State} (hs : s.state = .idle) (h : idleArm p s = .next u) :
    ArmEffect p s u := by
  rcases idleArm_cases hs h with ⟨hv, rfl⟩ |
    ⟨hv, ⟨ho, rfl⟩ | ⟨ho, rfl⟩ | ⟨ho, rfl⟩ | ⟨ho, rfl⟩ | ⟨ho, rfl⟩ | ⟨ho, rfl⟩⟩
  · exact .idleWait hs hv
  · exact .connect hs hv ho
  · exact .disconnect hs hv ho
  · unfold sendAccept
    split_ifs with hc hl
    · exact .notConnected hs hv (.inl ho) hc
    · exact .tooLong hs hv ho (by simpa using hc) hl
    · exact .startFrame hs hv ho (by simpa using hc) (Nat.le_of_not_lt hl)
  · unfold receiveAccept
    split_ifs with hc
    · exact .notConnected hs hv (.inr ho) hc
    · exact .startHunt hs hv ho (by simpa using hc)
  · exact .ack hs hv ho
  · exact .illegal hs hv ho

/-- A byte consumed in HUNT, LEN or BODY has one of the listed effects (R215 to R217). -/
theorem ArmEffect.of_consumeByte {p : Ports} {s : State} (hs : s.state = .hunt ∨ s.state = .len ∨ s.state = .body)
    (hd : s.elapsed.toNat < s.dl.toNat) (he : p.rxErr = false) (hv : p.rxValid = true) :
    ArmEffect p s (consumeByte Config.params p.rxData ((s.countElapsed p.tick).takeByte p.rxData)) := by
  rcases hs with hs | hs | hs <;> simp only [consumeByte, State.takeByte_state, State.countElapsed_state, hs]
  · unfold huntByte
    split_ifs with hb
    · exact .huntFound hs hd he hv hb
    · exact .huntSkip hs hd he hv hb
  · unfold lenByte
    split_ifs with hb
    · exact .lenShort hs hd he hv hb
    · exact .lenLong hs hd he hv (by omega)
  · unfold bodyByte
    split_ifs with hn
    · exact .bodyLast hs hd he hv hn
    · exact .bodyNext hs hd he hv hn

/-- An edge in HUNT, LEN or BODY has one of the listed effects (R212 to R217). -/
theorem ArmEffect.of_waitArm {p : Ports} {s : State} (hs : s.state = .hunt ∨ s.state = .len ∨ s.state = .body) :
    ArmEffect p s (waitArm Config.params p s) := by
  rcases waitArm_cases Config.params p s with ⟨hd, h⟩ | ⟨hd, ⟨he, h⟩ | ⟨he, hv, h⟩ | ⟨he, hv, h⟩⟩ <;> rw [h]
  · exact .timeOut hs hd
  · exact .rxError hs hd he
  · exact .of_consumeByte hs hd he hv
  · exact .rxWait hs hd he hv

/-- An edge in OPEN_WAIT has one of the listed effects (R176 to R178). -/
theorem ArmEffect.of_openWaitArm {p : Ports} {s : State} (hs : s.state = .openWait) :
    ArmEffect p s (openWaitArm p s) := by
  unfold openWaitArm State.completeAnswer
  split_ifs with hd hc
  · exact .opened hs hd hc
  · exact .openFailed hs hd hc
  · exact .openUnanswered hs (by simpa using hd)

/-- An edge in CLOSE_WAIT has one of the listed effects (R181, R182). -/
theorem ArmEffect.of_closeWaitArm {p : Ports} {s : State} (hs : s.state = .closeWait) :
    ArmEffect p s (closeWaitArm p s) := by
  unfold closeWaitArm State.completeAnswer
  split_ifs with hd hc
  · exact .closed hs hd hc
  · exact .closeFailed hs hd hc
  · exact .closeUnanswered hs (by simpa using hd)

/-- An edge in TX has one of the listed effects (R188 to R190). -/
theorem ArmEffect.of_txArm {p : Ports} {s : State} (hs : s.state = .tx) : ArmEffect p s (txArm p s) := by
  unfold txArm
  split_ifs with hf ha hi
  · exact .txRefused hs hf
  · exact .txLast hs (by simpa using hf) ha hi
  · exact .txNext hs (by simpa using hf) ha hi
  · exact .txWait hs (by simpa using hf) (by simpa using ha)

/-- An edge in CHECK has one of the listed effects (R219 to R221). -/
theorem ArmEffect.of_checkArm {p : Ports} {s : State} (hs : s.state = .check) :
    ArmEffect p s (checkArm Config.params s) := by
  unfold checkArm
  split_ifs with hk <;> rw [codecValidate_ok] at hk
  · exact .good hs hk
  · exact .bad hs hk

/-- Every FSM arm has one of the listed effects (R170). -/
theorem ArmEffect.of_fsmArm {p : Ports} {s u : State} (h : fsmArm p s = .next u) : ArmEffect p s u := by
  unfold fsmArm at h
  cases hs : s.state <;> rw [hs] at h
  case idle => exact .of_idle hs h
  all_goals cases h
  case openWait => exact .of_openWaitArm hs
  case closeWait => exact .of_closeWaitArm hs
  case tx => exact .of_txArm hs
  case hunt => exact .of_waitArm (.inl hs)
  case len => exact .of_waitArm (.inr (.inl hs))
  case body => exact .of_waitArm (.inr (.inr hs))
  case check => exact .of_checkArm hs

/-- What an edge without reset leaves: one of the listed effects, joined by the register port (R170). -/
theorem ArmEffect.of_step {s t : State} (hr : s.sample.rst = false) (h : step s = .next t) :
    ∃ u, ArmEffect s.sample s u ∧ t = s.afterEdge u := by
  rcases step_cases h with ⟨hr', -⟩ | ⟨-, u, hu, rfl⟩
  · exact absurd (hr.symm.trans hr') Bool.false_ne_true
  · exact ⟨u, .of_fsmArm hu, rfl⟩

end Sys2Proof.Machine
end

section
/-! SUPPORT. Which edges write which element of 10_state.md (R24 to R38, R40 to R42). -/

namespace Sys2Proof.Machine

/-- Settles O13: each effect that ends a command leaves IDLE with DONE, and each other effect but `idleWait` leaves a busy
state without it. -/
theorem doneMarksCompletionEdges : Obligations.DoneMarksCompletionEdges := by
  unfold Obligations.DoneMarksCompletionEdges
  intro s t hr h
  obtain ⟨u, hu, rfl⟩ := ArmEffect.of_step hr h
  rw [State.afterEdge_done, State.afterEdge_state]
  cases hu
  case timeOut hs _ | rxError hs _ _ | rxWait hs _ _ _ => rcases hs with hs | hs | hs <;> simp [hs]
  all_goals simp [*]

/-- Settles O51: the channel's answers are the only effects that write CONNECTED. -/
theorem connectedChangesByTheChannelsAnswerOnly : Obligations.ConnectedChangesByTheChannelsAnswerOnly := by
  unfold Obligations.ConnectedChangesByTheChannelsAnswerOnly
  intro s t hr h
  obtain ⟨u, hu, rfl⟩ := ArmEffect.of_step hr h
  rw [State.afterEdge_connected]
  cases hu
  case opened hs hd hc => exact fun _ => ⟨hd, .inl ⟨hs, hc, rfl⟩⟩
  case closed hs hd _ | closeFailed hs hd _ => exact fun _ => ⟨hd, .inr ⟨hs, rfl⟩⟩
  all_goals exact fun hne => absurd rfl hne

/-- Settles O52: `opened` and `txLast` write SEQ, and no other effect has the guard of either. -/
theorem seqChangesByConnectAndSendOnly : Obligations.SeqChangesByConnectAndSendOnly := by
  unfold Obligations.SeqChangesByConnectAndSendOnly
  intro s t hr h
  obtain ⟨u, hu, rfl⟩ := ArmEffect.of_step hr h
  rw [State.afterEdge_seq]
  cases hu
  case openFailed hs hd hc => simp [hs, show ¬ s.sample.chanCode = 0#8 from hc]
  case txLast hs hf ha hi => simp [hs, hf, ha, hi, nextSeq]
  case timeOut hs _ | rxError hs _ _ | rxWait hs _ _ _ => rcases hs with hs | hs | hs <;> simp [hs]
  all_goals simp [*]

/-- Settles O53: `opened`, `txLast`, `good`, `bad` and `timeOut` write a counter, each under its own guard. -/
theorem countersCountTheirEdgesOnly : Obligations.CountersCountTheirEdgesOnly := by
  unfold Obligations.CountersCountTheirEdgesOnly
  intro s t hr h
  obtain ⟨u, hu, rfl⟩ := ArmEffect.of_step hr h
  simp only [State.afterEdge_cntSent, State.afterEdge_cntGood, State.afterEdge_cntBad, State.afterEdge_cntTimeout,
    State.afterEdge_state, State.afterEdge_rkind]
  cases hu
  case openFailed hs hd hc => simp [hs, show ¬ s.sample.chanCode = 0#8 from hc]
  case txLast hs _ _ _ | good hs _ | bad hs _ => simp [hs, bumpCounter_eq]
  case timeOut hs hd => rcases hs with hs | hs | hs <;> simp [hs, hd, bumpCounter_eq]
  case rxError hs hd _ | rxWait hs hd _ _ => rcases hs with hs | hs | hs <;> simp [hs, hd]
  all_goals simp [*]

/-- RESULT and RKIND are written only where a command completes (R34, R35, R171). -/
theorem ArmEffect.result_eq {p : Ports} {s u : State} (hu : ArmEffect p s u) (hd : u.done = false) :
    u.result = s.result ∧ u.rkind = s.rkind := by
  revert hd
  cases hu <;> simp

/-- RXBUF, RX_SEQ and FAIL_REASON are written only in CHECK (R36, R37, R40). -/
theorem ArmEffect.received_eq {p : Ports} {s u : State} (hu : ArmEffect p s u) (hs : s.state ≠ .check) :
    u.rxbuf = s.rxbuf ∧ u.rxSeq = s.rxSeq ∧ u.failReason = s.failReason := by
  cases hu
  case good hc _ | bad hc _ => exact absurd hc hs
  all_goals exact ⟨rfl, rfl, rfl⟩

/-- DL and MAXSZ are written only where a RECEIVE begins (R32, R42, R211). -/
theorem ArmEffect.dl_eq {p : Ports} {s u : State} (hu : ArmEffect p s u) (h : ¬ (s.state = .idle ∧ u.state = .hunt)) :
    u.dl = s.dl ∧ u.maxsz = s.maxsz := by
  cases hu
  case startHunt hs _ _ _ => exact absurd ⟨hs, rfl⟩ h
  all_goals exact ⟨rfl, rfl⟩

/-- ELAPSED is written only where a RECEIVE begins and where a wait has not met its deadline (R33, R211, R212). -/
theorem ArmEffect.elapsed_eq {p : Ports} {s u : State} (hu : ArmEffect p s u)
    (h : ¬ (s.state = .idle ∧ u.state = .hunt))
    (hw : ¬ ((s.state = .hunt ∨ s.state = .len ∨ s.state = .body) ∧ s.elapsed.toNat < s.dl.toNat)) :
    u.elapsed = s.elapsed := by
  cases hu
  case startHunt hs _ _ _ => exact absurd ⟨hs, rfl⟩ h
  case rxError hs hd _ | rxWait hs hd _ _ => exact absurd ⟨hs, hd⟩ hw
  case huntSkip hs hd _ _ _ | huntFound hs hd _ _ _ => exact absurd ⟨.inl hs, hd⟩ hw
  case lenShort hs hd _ _ _ | lenLong hs hd _ _ _ => exact absurd ⟨.inr (.inl hs), hd⟩ hw
  case bodyLast hs hd _ _ _ | bodyNext hs hd _ _ _ => exact absurd ⟨.inr (.inr hs), hd⟩ hw
  all_goals rfl

/-- Before its deadline a wait is ready for a byte (R111, R212). -/
theorem State.rxReady_of_wait {s : State} (hs : s.state = .hunt ∨ s.state = .len ∨ s.state = .body)
    (hd : s.elapsed.toNat < s.dl.toNat) : s.rxReady = true := by
  rcases hs with hs | hs | hs <;> simp [State.rxReady, State.deadlinePassed, Fsm.receiving, hs, hd]

/-- FRAMEBUF, RXLEN and RXCOUNT are written only where a byte is consumed, RXCOUNT also where a RECEIVE begins (R42,
R214). -/
theorem ArmEffect.candidate_eq {p : Ports} {s u : State} (hu : ArmEffect p s u)
    (h : ¬ (s.rxReady = true ∧ p.rxValid = true ∧ p.rxErr = false)) :
    u.framebuf = s.framebuf ∧ u.rxlen = s.rxlen ∧ (¬ (s.state = .idle ∧ u.state = .hunt) → u.rxcount = s.rxcount) := by
  cases hu
  case startHunt hs _ _ _ => exact ⟨rfl, rfl, fun hn => absurd ⟨hs, rfl⟩ hn⟩
  case huntFound hs hd he hv _ => exact absurd ⟨State.rxReady_of_wait (.inl hs) hd, hv, he⟩ h
  case lenShort hs hd he hv _ | lenLong hs hd he hv _ =>
    exact absurd ⟨State.rxReady_of_wait (.inr (.inl hs)) hd, hv, he⟩ h
  case bodyLast hs hd he hv _ | bodyNext hs hd he hv _ =>
    exact absurd ⟨State.rxReady_of_wait (.inr (.inr hs)) hd, hv, he⟩ h
  all_goals exact ⟨rfl, rfl, fun _ => rfl⟩

/-- RXLEN is written only in LEN (R42, R216). -/
theorem ArmEffect.rxlen_eq {p : Ports} {s u : State} (hu : ArmEffect p s u) (hs : s.state ≠ .len) : u.rxlen = s.rxlen := by
  cases hu
  case lenShort hl _ _ _ _ | lenLong hl _ _ _ _ => exact absurd hl hs
  all_goals rfl

/-- TXFRAME and TXLEN are written only where a SEND begins, TXIDX only there and where TX hands over a byte (R41, R187). -/
theorem ArmEffect.transmit_eq {p : Ports} {s u : State} (hu : ArmEffect p s u)
    (h : ¬ (s.state = .idle ∧ u.state = .tx)) :
    u.txframe = s.txframe ∧ u.txlen = s.txlen ∧
      (¬ (s.state = .tx ∧ p.txAck = true ∧ p.txFull = false) → u.txidx = s.txidx) := by
  cases hu
  case startFrame hs _ _ _ _ => exact absurd ⟨hs, rfl⟩ h
  case txNext hs hf ha _ => exact ⟨rfl, rfl, fun hn => absurd ⟨hs, ha, hf⟩ hn⟩
  all_goals exact ⟨rfl, rfl, fun _ => rfl⟩

/-- No arm writes the codec's outputs (R130). -/
theorem ArmEffect.codecOut_eq {p : Ports} {s u : State} (hu : ArmEffect p s u) : u.codecOut = s.codecOut := by
  cases hu <;> rfl

/-- Settles O54: one frame lemma per element. -/
theorem eachElementIsWrittenAtItsOwnEdgesOnly : Obligations.EachElementIsWrittenAtItsOwnEdgesOnly := by
  unfold Obligations.EachElementIsWrittenAtItsOwnEdgesOnly
  intro s t hr h
  obtain ⟨u, hu, rfl⟩ := ArmEffect.of_step hr h
  simp only [State.afterEdge_state, State.afterEdge_done, State.afterEdge_result, State.afterEdge_rkind,
    State.afterEdge_rxbuf, State.afterEdge_rxSeq, State.afterEdge_failReason, State.afterEdge_dl, State.afterEdge_maxsz,
    State.afterEdge_elapsed, State.afterEdge_framebuf, State.afterEdge_rxlen, State.afterEdge_rxcount,
    State.afterEdge_txframe, State.afterEdge_txlen, State.afterEdge_txidx, State.afterEdge_codecOut]
  exact ⟨hu.result_eq, hu.received_eq, hu.dl_eq, hu.elapsed_eq, hu.candidate_eq, hu.rxlen_eq, hu.transmit_eq,
    hu.codecOut_eq⟩

end Sys2Proof.Machine
end

section
/-! SUPPORT. The promises of `SafeState`: each is kept by every effect of an FSM arm, by the register port and by a reset. -/

namespace Sys2Proof.Machine

/-- No effect of an arm takes a buffer out of its canonical form (R39 to R42, R61). -/
theorem ArmEffect.buffersCanonical {p : Ports} {s u : State} (hu : ArmEffect p s u) (h : s.buffersCanonical) :
    u.buffersCanonical := by
  obtain ⟨htx, hrx, hfr, hcand⟩ := h
  have hw (i : Nat) : Memory.wf framebufSize (Memory.write framebufSize s.framebuf i p.rxData) := Memory.wf_write i _ hcand
  cases hu
  case startFrame => exact ⟨htx, hrx, Memory.wf_writeFrom _ _ hfr, hcand⟩
  case good | bad => exact ⟨htx, Memory.wf_writeFrom _ _ hrx, hfr, hcand⟩
  case huntFound => exact ⟨htx, hrx, hfr, hw 0⟩
  case lenShort | lenLong => exact ⟨htx, hrx, hfr, hw 1⟩
  case bodyLast | bodyNext => exact ⟨htx, hrx, hfr, hw _⟩
  all_goals exact ⟨htx, hrx, hfr, hcand⟩

/-- The register write keeps TXBUF canonical, and writes no other buffer (R264). -/
theorem State.afterEdge_buffersCanonical {s u : State} (htx : u.txbuf = s.txbuf) (h : u.buffersCanonical) :
    (s.afterEdge u).buffersCanonical := by
  obtain ⟨hbuf, hrest⟩ := h
  refine ⟨?_, by simpa using hrest⟩
  rw [htx] at hbuf
  rw [State.afterEdge_txbuf s u htx]
  split
  · exact Memory.wf_write _ _ hbuf
  · exact hbuf

/-- Settles O48: neither the FSM arm nor the register write leaves the form, and a reset lists nothing. -/
theorem everyEdgeKeepsTheBuffersCanonical : Obligations.EveryEdgeKeepsTheBuffersCanonical := by
  unfold Obligations.EveryEdgeKeepsTheBuffersCanonical
  intro s t hs h
  rcases step_cases h with ⟨-, rfl⟩ | ⟨-, u, hu, rfl⟩
  · exact Memory.wf_reset
  · obtain ⟨-, htx, -⟩ := fsmArm_frame hu
    exact State.afterEdge_buffersCanonical htx ((ArmEffect.of_fsmArm hu).buffersCanonical hs)

/-! ### TX -/

/-- A frame's length fits TXLEN (R41, R92). -/
theorem toNat_ofNat_buildLength {p : List Byte} (h : p.length ≤ 250) :
    (BitVec.ofNat 8 (buildLength p)).toNat = buildLength p := by
  rw [BitVec.toNat_ofNat, buildLength]
  omega

/-- VALIDATE passes a built frame (R142). -/
theorem validateReason_build (P : Params) (p : List Byte) (q : SeqNum) (h : p.length ≤ 250) :
    validateReason P (codecBuild P p q) = .none := by
  have hck : codecCkOk p (codecChecksum p) = true := by
    rw [codecCkOk_iff, codecChecksum_toNat]
    omega
  have hlen : ((codecBuild P p q).getD 1 0).toNat = (codecBuild P p q).length := by
    rw [codecBuild_lengthByte P p q h, codecBuild_length]
  have hge : 5 ≤ buildLength p := Nat.le_add_left 5 _
  unfold validateReason
  rw [codecBuild_head, codecBuild_last, codecBuild_checksum, payloadSpan_build, hlen, hck]
  simp [hge]

/-- The frame in TX is a list of TXFRAME's bytes (R41). -/
theorem State.frameInTx_getElem? (s : State) (i : Nat) :
    s.frameInTx[i]? = if i < s.txlen.toNat then some (s.txframeByte i) else none := by
  unfold State.frameInTx
  split <;> simp [*]

/-- Once TXFRAME is written with a valid frame from offset 0, that frame is the one in TX (R187). -/
theorem State.frameInTx_of_writeFrom {u : State} {m : Memory} {f : List Byte} (hl : u.txlen.toNat = f.length)
    (hm : u.txframe = Memory.writeFrom txframeSize m 0 f) (hv : validateReason Config.params f = .none) :
    (∀ i, i < u.txlen.toNat → (Memory.read? u.txframe i).isSome) ∧
      validateReason Config.params u.frameInTx = .none := by
  have hsize : 0 + f.length ≤ txframeSize := by
    have := u.txlen.isLt
    unfold txframeSize
    omega
  have hread (i : Nat) (hi : i < f.length) : Memory.read? u.txframe i = f[i]? := by
    rw [hm, Memory.read?_writeFrom _ _ _ _ _ hsize]
    simp [hi]
  have hf : u.frameInTx = f := List.ext_getElem? fun i => by
    rw [State.frameInTx_getElem?, hl]
    split
    next hi => simp [State.txframeByte, hread i hi, hi]
    next hi => simp [Nat.le_of_not_lt hi]
  refine ⟨fun i hi => ?_, hf ▸ hv⟩
  rw [hread i (hl ▸ hi)]
  simp [hl ▸ hi]

/-- TX is entered with a whole valid frame, and a byte handed over keeps the offset inside it (R187 to R190). -/
theorem ArmEffect.txHolds {p : Ports} {s u : State} (hu : ArmEffect p s u) (h : s.txHolds) : u.txHolds := by
  cases hu
  case startFrame hl =>
    intro _
    have hp : (s.payload (cmdLen p.cmdWord).toNat).length ≤ 250 := by simpa using hl
    have hlen := toNat_ofNat_buildLength hp
    refine ⟨?_, State.frameInTx_of_writeFrom ?_ rfl (validateReason_build _ _ s.seq hp)⟩
    · exact (Nat.zero_lt_succ _).trans_eq hlen.symm
    · rw [codecBuild_length]
      exact hlen
  case txNext hs _ _ hi =>
    obtain ⟨hlt, hread, hvalid⟩ := h hs
    refine fun _ => ⟨?_, hread, hvalid⟩
    show (BitVec.ofNat 8 (s.txidx.toNat + 1)).toNat < s.txlen.toNat
    have := s.txlen.isLt
    simp only [BitVec.toNat_ofNat]
    omega
  case idleWait | openUnanswered | closeUnanswered | txWait | rxWait | huntSkip => exact h
  all_goals simp [State.txHolds]

/-! ### The receive path -/

/-- What HUNT holds (R211). -/
theorem State.rxHolds_hunt {s : State} (hs : s.state = .hunt) : s.rxHolds ↔ s.rxcount = 0 := by
  simp [State.rxHolds, hs]

/-- What LEN holds (R215). -/
theorem State.rxHolds_len {s : State} (hs : s.state = .len) :
    s.rxHolds ↔ s.rxcount = 1 ∧ s.candidateWritten ∧ s.framebufByte 0 = Config.startMarker := by
  simp [State.rxHolds, hs]

/-- What BODY holds (R216, R217). -/
theorem State.rxHolds_body {s : State} (hs : s.state = .body) :
    s.rxHolds ↔ 2 ≤ s.rxcount.toNat ∧ s.rxcount.toNat < s.rxlen.toNat ∧ s.candidateWritten ∧
      s.framebufByte 0 = Config.startMarker ∧ s.framebufByte 1 = s.rxlen := by
  simp [State.rxHolds, hs]

/-- What CHECK holds (R216, R217). -/
theorem State.rxHolds_check {s : State} (hs : s.state = .check) :
    s.rxHolds ↔ (if s.rxlen.toNat ≤ 2 then s.rxcount = 2 else s.rxcount = s.rxlen) ∧ s.candidateWritten ∧
      s.framebufByte 0 = Config.startMarker ∧ s.framebufByte 1 = s.rxlen := by
  simp [State.rxHolds, hs]

/-- A byte stored behind the candidate's bytes and counted: every byte counted is written, and no other byte changed
(R42, R215 to R217). -/
theorem State.candidate_of_store {s u : State} {i : Nat} {b : Byte} (hw : s.candidateWritten)
    (hi : s.rxcount.toNat = i) (hlt : i < 255) (hf : u.framebuf = Memory.write framebufSize s.framebuf i b)
    (he : u.epoch = s.epoch) (hc : u.rxcount.toNat = i + 1) :
    u.candidateWritten ∧ ∀ j, u.framebufByte j = if j = i then b else s.framebufByte j := by
  have hread (j : Nat) : Memory.read? u.framebuf j = if j = i then some b else Memory.read? s.framebuf j := by
    rw [hf, Memory.read?_write, framebufSize]
    simp [hlt]
  refine ⟨fun j hj => ?_, fun j => ?_⟩
  · rw [hread]
    split
    · rfl
    · exact hw j (by omega)
  · unfold State.framebufByte
    rw [hread, he]
    split <;> rfl

/-- The start marker is the candidate's first byte (R215). -/
theorem State.candidate_of_huntFound {s u : State} {b : Byte} (hs : s.state = .hunt) (h : s.rxHolds)
    (hb : b = Config.startMarker) (hf : u.framebuf = Memory.write framebufSize s.framebuf 0 b) (he : u.epoch = s.epoch)
    (hc : u.rxcount = 1) : u.candidateWritten ∧ u.framebufByte 0 = Config.startMarker := by
  have h0 := (State.rxHolds_hunt hs).mp h
  have hw : s.candidateWritten := fun i hi => by simp [h0] at hi
  obtain ⟨huw, hub⟩ := State.candidate_of_store hw (by simp [h0]) (by decide) hf he (by simp [hc])
  exact ⟨huw, by rw [hub, if_pos rfl, hb]⟩

/-- The length byte is the candidate's second byte (R216). -/
theorem State.candidate_of_lenTaken {s u : State} {b : Byte} (hs : s.state = .len) (h : s.rxHolds)
    (hf : u.framebuf = Memory.write framebufSize s.framebuf 1 b) (he : u.epoch = s.epoch) (hl : u.rxlen = b)
    (hc : u.rxcount = 2) :
    u.candidateWritten ∧ u.framebufByte 0 = Config.startMarker ∧ u.framebufByte 1 = u.rxlen := by
  obtain ⟨h1, hw, hm⟩ := (State.rxHolds_len hs).mp h
  obtain ⟨huw, hub⟩ := State.candidate_of_store hw (by simp [h1]) (by decide) hf he (by simp [hc])
  exact ⟨huw, by rw [hub, if_neg (by decide), hm], by rw [hub, if_pos rfl, hl]⟩

/-- A later byte leaves the candidate's first two bytes alone (R217). -/
theorem State.candidate_of_bodyTaken {s u : State} {b : Byte} (hs : s.state = .body) (h : s.rxHolds)
    (hf : u.framebuf = Memory.write framebufSize s.framebuf s.rxcount.toNat b) (he : u.epoch = s.epoch)
    (hl : u.rxlen = s.rxlen) (hc : u.rxcount = BitVec.ofNat 8 (s.rxcount.toNat + 1)) :
    u.rxcount.toNat = s.rxcount.toNat + 1 ∧
    u.candidateWritten ∧ u.framebufByte 0 = Config.startMarker ∧ u.framebufByte 1 = u.rxlen := by
  obtain ⟨h2, hlt, hw, hm, hd⟩ := (State.rxHolds_body hs).mp h
  have hmax := s.rxlen.isLt
  have hcount : u.rxcount.toNat = s.rxcount.toNat + 1 := by
    rw [hc, BitVec.toNat_ofNat]
    omega
  obtain ⟨huw, hub⟩ := State.candidate_of_store hw rfl (by omega) hf he hcount
  exact ⟨hcount, huw, by rw [hub, if_neg (by omega), hm], by rw [hub, if_neg (by omega), hd, hl]⟩

/-- Each receive state is entered with what it holds (R61, R211, R215 to R217). -/
theorem ArmEffect.rxHolds {p : Ports} {s u : State} (hu : ArmEffect p s u) (h : s.rxHolds) : u.rxHolds := by
  cases hu
  case startHunt => exact rfl
  case huntFound hs _ _ _ hb =>
    exact (State.rxHolds_len rfl).mpr ⟨rfl, State.candidate_of_huntFound hs h hb rfl rfl rfl⟩
  case lenShort hs _ _ _ hb =>
    exact (State.rxHolds_check rfl).mpr ⟨by simp [hb], State.candidate_of_lenTaken hs h rfl rfl rfl rfl⟩
  case lenLong hs _ _ _ hb =>
    exact (State.rxHolds_body rfl).mpr ⟨Nat.le_refl 2, hb, State.candidate_of_lenTaken hs h rfl rfl rfl rfl⟩
  case bodyLast hs _ _ _ hn =>
    obtain ⟨hcount, hcand⟩ :=
      State.candidate_of_bodyTaken (u := (s.collect p s.rxcount.toNat).goto .check) hs h rfl rfl rfl rfl
    obtain ⟨h2, hlt, -⟩ := (State.rxHolds_body hs).mp h
    have hlong : ¬ s.rxlen.toNat ≤ 2 := by omega
    refine (State.rxHolds_check rfl).mpr ⟨?_, hcand⟩
    split
    next hshort => exact absurd hshort hlong
    next => exact BitVec.eq_of_toNat_eq (hcount.trans hn)
  case bodyNext hs _ _ _ hn =>
    obtain ⟨hcount, hcand⟩ :=
      State.candidate_of_bodyTaken (u := (s.collect p s.rxcount.toNat).goto .body) hs h rfl rfl rfl rfl
    obtain ⟨h2, hlt, -⟩ := (State.rxHolds_body hs).mp h
    refine (State.rxHolds_body rfl).mpr ⟨?_, ?_, hcand⟩
    · rw [hcount]
      omega
    · rw [hcount]
      show _ < s.rxlen.toNat
      omega
  case idleWait | openUnanswered | closeUnanswered | txNext | txWait | rxWait | huntSkip => exact h
  all_goals trivial

/-! ### The other promises -/

/-- A SEND or a RECEIVE starts in the session state Connected, and no edge of either writes CONNECTED (R24, R185, R210). -/
theorem ArmEffect.busyConnected {p : Ports} {s u : State} (hu : ArmEffect p s u) (h : s.busyConnected) :
    u.busyConnected := by
  cases hu
  case startFrame hc _ | startHunt hc => exact fun _ => hc
  case huntFound hs _ _ _ _ | lenShort hs _ _ _ _ | lenLong hs _ _ _ _ | bodyLast hs _ _ _ _ | bodyNext hs _ _ _ _ =>
    exact fun _ => h (by simp [hs])
  case idleWait | openUnanswered | closeUnanswered | txNext | txWait | rxWait | huntSkip => exact h
  all_goals simp [State.busyConnected]

/-- The pattern of `-c` for a failure code `c` of the channel (R178, R281). -/
theorem negResult_toNat_ge {c : Byte} (hc : c ≠ 0) : 0xFF01 ≤ (negResult c.toNat).toNat := by
  have hpos : c.toNat ≠ 0 := fun h => hc (BitVec.eq_of_toNat_eq h)
  have := c.isLt
  rw [negResult, BitVec.toNat_ofNat]
  omega

/-- A completion writes a RESULT of its kind's row, and ACK and the waits leave both as they are (R281). -/
theorem ArmEffect.resultFitsKind {p : Ports} {s u : State} (hu : ArmEffect p s u) (h : s.resultFitsKind) :
    u.resultFitsKind := by
  cases hu
  case notConnected | tooLong | opened | closed | txLast | timeOut | bad => exact rfl
  case openFailed hc | closeFailed hc => exact negResult_toNat_ge hc
  case txRefused | rxError => exact negResult_toNat_ge (c := 3) (by decide)
  case illegal => trivial
  case good =>
    show (BitVec.ofNat 16 (extractCount s.candidate s.maxsz.toNat)).toNat ≤ 250
    obtain ⟨hle, -⟩ := extractCount_le s.candidate s.maxsz.toNat
    have := s.rxcount.isLt
    rw [State.candidate_length] at hle
    rw [BitVec.toNat_ofNat]
    omega
  all_goals exact h

/-- ELAPSED moves by at most one (R212). -/
theorem countTick_le (e : Word32) (tick : Bool) : (countTick e tick).toNat ≤ e.toNat + 1 := by
  have := Bool.toNat_le tick
  rw [countTick, sat32, BitVec.toNat_ofNat]
  omega

/-- A wait counts a tick only below its deadline (R211, R212). -/
theorem ArmEffect.timeWithinDeadline {p : Ports} {s u : State} (hu : ArmEffect p s u) (h : s.timeWithinDeadline) :
    u.timeWithinDeadline := by
  have hcount := countTick_le s.elapsed p.tick
  cases hu
  case startHunt => exact fun _ => Nat.zero_le _
  case rxWait hd _ _ | huntSkip hd _ _ _ | huntFound hd _ _ _ | lenLong hd _ _ _ | bodyNext hd _ _ _ =>
    exact fun _ => hcount.trans hd
  case idleWait | openUnanswered | closeUnanswered | txNext | txWait => exact h
  all_goals exact nofun

/-- A candidate that begins with the start marker does not fail at START (R222). -/
theorem State.validateReason_candidate_ne_start {P : Params} {s : State} (hc : 1 ≤ s.rxcount.toNat)
    (h0 : s.framebufByte 0 = P.startMarker) : validateReason P s.candidate ≠ .start := by
  rw [validateReason_candidate P hc, frameReason, if_neg (not_not.mpr h0)]
  split_ifs <;> decide

/-- FAIL_REASON is written in CHECK alone, from a candidate HUNT began (R222). -/
theorem ArmEffect.failReasonNotStart {p : Ports} {s u : State} (hu : ArmEffect p s u) (hrx : s.rxHolds)
    (h : s.failReason ≠ .start) : u.failReason ≠ .start := by
  cases hu
  case good => exact nofun
  case bad hs _ =>
    obtain ⟨hlen, -, h0, -⟩ := (State.rxHolds_check hs).mp hrx
    refine State.validateReason_candidate_ne_start ?_ h0
    split at hlen <;> rw [hlen]
    · decide
    · omega
  all_goals exact h

/-! ### The edge: the register port reaches none of the promises but the form of TXBUF -/

@[simp] theorem State.afterEdge_frameInTx (s u : State) : (s.afterEdge u).frameInTx = u.frameInTx := by
  rw [State.frameInTx, State.frameInTx, State.afterEdge_txlen]
  exact List.map_congr_left fun i _ => State.afterEdge_txframeByte s u i

@[simp] theorem State.afterEdge_txHolds (s u : State) : (s.afterEdge u).txHolds ↔ u.txHolds := by
  simp [State.txHolds]

@[simp] theorem State.afterEdge_rxHolds (s u : State) : (s.afterEdge u).rxHolds ↔ u.rxHolds := by
  simp [State.rxHolds, State.candidateWritten]

@[simp] theorem State.afterEdge_busyConnected (s u : State) : (s.afterEdge u).busyConnected ↔ u.busyConnected := by
  simp [State.busyConnected]

@[simp] theorem State.afterEdge_resultFitsKind (s u : State) : (s.afterEdge u).resultFitsKind ↔ u.resultFitsKind := by
  simp [State.resultFitsKind]

@[simp] theorem State.afterEdge_timeWithinDeadline (s u : State) :
    (s.afterEdge u).timeWithinDeadline ↔ u.timeWithinDeadline := by
  simp [State.timeWithinDeadline]

/-- A reset edge leaves a state that keeps every promise, whatever it found (R310). -/
theorem SafeState.of_reset (p : Ports) (s : State) : SafeState (State.passEdge p s s.resetElements) where
  buffersCanonical := Memory.wf_reset
  txHolds := nofun
  rxHolds := trivial
  busyConnected := by simp [State.busyConnected, State.passEdge, State.resetElements, State.reset]
  resultFitsKind := rfl
  timeWithinDeadline := nofun
  doneOnlyInIdle := nofun
  failReasonNotStart := nofun

/-- Settles O49: each promise is kept by every effect of an arm, and the register port reaches none of them but the form of
TXBUF. -/
theorem stepKeepsEveryPromise : Obligations.StepKeepsEveryPromise := by
  unfold Obligations.StepKeepsEveryPromise
  intro s t hs h
  rcases step_cases h with ⟨-, rfl⟩ | ⟨hr, u, hu, rfl⟩
  · exact .of_reset _ _
  · have hu := ArmEffect.of_fsmArm hu
    exact
      { buffersCanonical := everyEdgeKeepsTheBuffersCanonical _ _ hs.buffersCanonical h
        txHolds := (State.afterEdge_txHolds s u).mpr (hu.txHolds hs.txHolds)
        rxHolds := (State.afterEdge_rxHolds s u).mpr (hu.rxHolds hs.rxHolds)
        busyConnected := (State.afterEdge_busyConnected s u).mpr (hu.busyConnected hs.busyConnected)
        resultFitsKind := (State.afterEdge_resultFitsKind s u).mpr (hu.resultFitsKind hs.resultFitsKind)
        timeWithinDeadline := (State.afterEdge_timeWithinDeadline s u).mpr (hu.timeWithinDeadline hs.timeWithinDeadline)
        doneOnlyInIdle := fun hd => ((doneMarksCompletionEdges _ _ hr h).mp hd).1
        failReasonNotStart := by simpa using hu.failReasonNotStart hs.rxHolds hs.failReasonNotStart }

end Sys2Proof.Machine
end

section
/-! SUPPORT. What an edge leaves of the elements of 10_state.md, where its FSM arm is known: the register port's part
(R73, R170, R264 to R267) and a byte consumed in BODY (R61, R217). -/

namespace Sys2Proof.Machine

/-- A byte of TXBUF after an edge whose FSM arm leaves TXBUF alone (R73, R266). -/
theorem State.afterEdge_txbufByte {s t : State} (hb : t.txbuf = s.txbuf) (he : t.epoch = s.epoch) (i : Nat) :
    (s.afterEdge t).txbufByte i =
      if s.sample.regWr = true ∧ s.state = .idle ∧ i < 250 ∧ s.sample.regAddr.toNat = 0x100 + i
      then s.sample.regWdata.setWidth 8 else s.txbufByte i := by
  simp only [State.txbufByte, State.afterEdge_epoch, he, State.afterEdge_txbuf s t hb, apply_ite (Memory.read? · i),
    Memory.read?_write, txbufSize]
  by_cases hw : s.sample.regWr = true ∧ s.state = .idle ∧ i < 250 ∧ s.sample.regAddr.toNat = 0x100 + i
  · rw [if_pos hw]
    obtain ⟨hwr, hs, hi, ha⟩ := hw
    have hle : 0x100 + i ≤ 0x1F9 := by omega
    simp [hwr, hs, ha, hi, hle]
  · rw [if_neg hw]
    split_ifs with hp hq
    · obtain ⟨hwr, h1, h2, hs⟩ := hp
      exact absurd ⟨hwr, hs, by omega, by omega⟩ hw
    · rfl
    · rfl

/-- Settles O8: no FSM arm writes DEADLINE or TXBUF, so the register write alone does. -/
theorem registerPortJoinsEveryArm : Obligations.RegisterPortJoinsEveryArm := by
  unfold Obligations.RegisterPortJoinsEveryArm
  intro s t hr h
  rcases step_cases h with ⟨hr', -⟩ | ⟨-, u, hu, rfl⟩
  · exact absurd (hr.symm.trans hr') Bool.false_ne_true
  · obtain ⟨hd, hb, he, -⟩ := fsmArm_frame hu
    have haddr : s.sample.regAddr = 0x006 ↔ s.sample.regAddr.toNat = 0x006 := BitVec.toNat_inj.symm
    refine ⟨?_, State.afterEdge_txbufByte hb he, rfl, rfl, rfl, by rw [State.afterEdge_epoch, he]⟩
    rw [State.afterEdge_deadline s u hd]
    simp only [haddr]

/-- A byte of FRAMEBUF after a byte is stored in the candidate (R215 to R217). -/
theorem State.framebufByte_storeCandidate (s : State) {i : Nat} (b : Byte) (hi : i < 255) (j : Nat) :
    (s.storeCandidate i b).framebufByte j = if j = i then b else s.framebufByte j := by
  simp only [State.framebufByte, State.storeCandidate_framebuf, State.storeCandidate_epoch, Memory.read?_write,
    framebufSize, hi, and_true]
  split <;> rfl

/-- The edge that consumes the byte offered in HUNT, LEN or BODY (R212, R214). -/
theorem step_of_byteOffered {s : State} (hs : s.state = .hunt ∨ s.state = .len ∨ s.state = .body)
    (hr : s.sample.rst = false) (hd : s.elapsed.toNat < s.dl.toNat) (he : s.sample.rxErr = false)
    (hv : s.sample.rxValid = true) :
    step s = .next (s.afterEdge
      (consumeByte Config.params s.sample.rxData ((s.countElapsed s.sample.tick).takeByte s.sample.rxData))) := by
  rw [step_of_arm hr (fsmArm_receiving hs)]
  rcases waitArm_cases Config.params s.sample s with ⟨hd', -⟩ | ⟨-, ⟨he', -⟩ | ⟨-, -, h⟩ | ⟨-, hv', -⟩⟩
  · exact absurd hd (Nat.not_lt.mpr hd')
  · exact absurd (he.symm.trans he') Bool.false_ne_true
  · rw [h]
  · exact absurd (hv'.symm.trans hv) Bool.false_ne_true

/-- The arm of a byte consumed in BODY (R217). -/
theorem consumeByte_body {P : Params} {p : Ports} {s : State} (hs : s.state = .body) :
    consumeByte P p.rxData ((s.countElapsed p.tick).takeByte p.rxData) =
      (s.collect p s.rxcount.toNat).goto (if s.rxcount.toNat + 1 = s.rxlen.toNat then .check else .body) := by
  simp only [consumeByte, State.takeByte_state, State.countElapsed_state, hs]
  rfl

/-- Settles O32: the byte is stored at RXCOUNT, inside FRAMEBUF, and counted. -/
theorem bodyCollectsTheDeclaredBytes : Obligations.BodyCollectsTheDeclaredBytes := by
  unfold Obligations.BodyCollectsTheDeclaredBytes
  intro s hs hr hd he hv hc
  refine ⟨_, step_of_byteOffered (.inr (.inr hs)) hr hd he hv, ?_, fun i => ?_⟩ <;> rw [consumeByte_body hs]
  · rw [State.afterEdge_framebuf, ← countTick_sample, ← ofNat_succ_byte]
    rfl
  · rw [State.afterEdge_framebufByte, State.goto_framebufByte]
    exact State.framebufByte_storeCandidate _ _ (by omega) i

end Sys2Proof.Machine
end

section
/-! SUPPORT. A whole SEND against a channel that takes a byte an edge (R187 to R191, R332): the accept edge puts the frame
in TX, each edge after it hands over the next byte, and the edge of the last byte completes. -/

namespace Sys2Proof.Machine

/-- The accept edge of a SEND that is neither refused for its session nor for its size (R185 to R187). -/
theorem step_of_send {s : State} {d : Bool} {l m : Byte} (hs : s.state = .idle) (hc : s.connected = true)
    (hl : l.toNat ≤ 250) (ho : s.sample.offersCmd (.send d l m)) :
    step s = .next (s.afterEdge (s.startFrame Config.params l.toNat)) := by
  obtain ⟨hr, hv, hw⟩ := ho
  have haccept : sendAccept Config.params l.toNat s = s.startFrame Config.params l.toNat := by
    simp [sendAccept, hc, Nat.not_lt.mpr hl]
  apply step_of_arm hr
  simp only [fsmArm, hs, idleArm, hv, if_true, hw, exec, execSend, byteOperand, haccept, State.offer_idle]

/-- The frame a SEND puts in TX is BUILD's (R187). -/
theorem State.startFrame_frameInTx (P : Params) (s : State) {n : Nat} (hn : n ≤ 250) :
    (s.startFrame P n).frameInTx = codecBuild P (s.payload n) s.seq := by
  have hp : (s.payload n).length ≤ 250 := by simpa using hn
  have hlen : (s.startFrame P n).txlen.toNat = (codecBuild P (s.payload n) s.seq).length :=
    (toNat_ofNat_buildLength hp).trans (codecBuild_length P _ _).symm
  have hsize : 0 + (codecBuild P (s.payload n) s.seq).length ≤ txframeSize := by
    rw [codecBuild_length, buildLength, txframeSize]
    omega
  refine List.ext_getElem? fun i => ?_
  rw [State.frameInTx_getElem?, hlen]
  split
  next hi =>
    have hread := Memory.read?_writeFrom _ _ s.txframe 0 i hsize
    rw [if_pos ⟨Nat.zero_le i, by omega⟩, Nat.sub_zero, List.getElem?_eq_getElem hi] at hread
    rw [List.getElem?_eq_getElem hi, State.txframeByte, State.startFrame, hread, Option.getD_some]
  next hi => rw [List.getElem?_eq_none (Nat.le_of_not_lt hi)]

/-- The edge in TX at which the channel takes a byte that is not the last (R188). -/
theorem step_of_txNext {t : State} (hs : t.state = .tx) (hp : t.sample.takesByte)
    (hi : t.txidx.toNat + 1 ≠ t.txlen.toNat) :
    step t = .next (t.afterEdge ({ t.putByte with txidx := BitVec.ofNat 8 (t.txidx.toNat + 1) } : State).stay) := by
  obtain ⟨hr, ha, hf⟩ := hp
  exact step_of_arm hr (by simp [fsmArm, hs, txArm, ha, hf, hi])

/-- The edge in TX at which the channel takes the last byte (R190). -/
theorem step_of_txLast {t : State} (hs : t.state = .tx) (hp : t.sample.takesByte)
    (hi : t.txidx.toNat + 1 = t.txlen.toNat) : step t = .next (t.afterEdge t.putByte.sendDone) := by
  obtain ⟨hr, ha, hf⟩ := hp
  exact step_of_arm hr (by simp [fsmArm, hs, txArm, ha, hf, hi])

/-- Where a SEND of the frame `f`, accepted in `s`, stands once `k` bytes of it have been taken: in TX, at offset `k`, with
those bytes on the wire and `k + 1` samples used up (R187, R188). -/
structure State.Sending (s : State) (f : List Byte) (k : Nat) (t : State) : Prop where
  state : t.state = .tx
  connected : t.connected = s.connected
  seq : t.seq = s.seq
  cntSent : t.cntSent = s.cntSent
  frame : t.frameInTx = f
  offset : t.txidx.toNat = k
  wire : t.txWire = s.txWire ++ f.take k
  inputs : t.inputs = s.inputs.drop (k + 1)

section

variable {s t : State} {f : List Byte} {k : Nat}

/-- TXLEN is the frame's length (R187). -/
theorem State.Sending.txlen (h : s.Sending f k t) : t.txlen.toNat = f.length := by
  simp [← h.frame, State.frameInTx]

/-- The byte handed over next is the frame's byte `k`, so the wire then holds one byte more of it (R188). -/
theorem State.Sending.wire_putByte (h : s.Sending f k t) (hk : k < f.length) :
    t.putByte.txWire = s.txWire ++ f.take (k + 1) := by
  have hbyte : f[k]? = some t.txByte := by
    rw [← h.frame, State.frameInTx_getElem?, h.txlen, if_pos hk, State.txByte, h.offset]
  rw [State.putByte_txWire, h.wire, List.append_assoc, List.take_add_one, hbyte]
  rfl

/-- The sample of the next edge (log 1). -/
theorem State.Sending.takesByte (h : s.Sending f k t) {p : Ports} {ps rest : List Ports}
    (hin : s.inputs = p :: ps ++ rest) (hps : ∀ q ∈ ps, q.takesByte) (hk : k < ps.length) : t.sample.takesByte := by
  have hsample : t.sample = ps[k] := by
    rw [State.sample, h.inputs, hin, List.head?_drop]
    simp [List.getElem?_append_left hk, List.getElem?_eq_getElem hk]
  exact hsample ▸ hps _ (List.getElem_mem hk)

/-- After its accept edge a SEND stands at offset 0 of its frame (R187). -/
theorem State.Sending.of_startFrame (s : State) {n : Nat} (hn : n ≤ 250) :
    s.Sending (codecBuild Config.params (s.payload n) s.seq) 0 (s.afterEdge (s.startFrame Config.params n)) where
  state := by simp [State.startFrame]
  connected := by simp [State.startFrame]
  seq := by simp [State.startFrame]
  cntSent := by simp [State.startFrame]
  frame := by rw [State.afterEdge_frameInTx, State.startFrame_frameInTx _ _ hn]
  offset := by simp [State.startFrame]
  wire := by simp [State.startFrame]
  inputs := by simp

/-- An edge that takes a byte before the last brings the SEND one offset on (R188). -/
theorem State.Sending.next (h : s.Sending f k t) (hk : k + 1 < f.length) (hp : t.sample.takesByte) :
    ∃ u, step t = .next u ∧ s.Sending f (k + 1) u := by
  have hlt : k + 1 < 256 := hk.trans (h.txlen ▸ t.txlen.isLt)
  refine ⟨_, step_of_txNext h.state hp (by rw [h.offset, h.txlen]; exact hk.ne), ?_⟩
  exact
    { state := by simp [h.state]
      connected := by simp [h.connected]
      seq := by simp [h.seq]
      cntSent := by simp [h.cntSent]
      frame := by rw [State.afterEdge_frameInTx]; exact h.frame
      offset := by simp [h.offset, Nat.mod_eq_of_lt hlt]
      wire := by rw [State.afterEdge_txWire]; exact h.wire_putByte (Nat.lt_of_succ_lt hk)
      inputs := by rw [State.afterEdge_inputs, h.inputs, List.tail_drop] }

/-- The edges of a SEND up to its last byte: `k + 1` of them take `k` bytes of the frame (R188, R332). -/
theorem State.Sending.run (h : step s = .next t) (h0 : s.Sending f 0 t) {p : Ports} {ps rest : List Ports}
    (hin : s.inputs = p :: ps ++ rest) (hps : ∀ q ∈ ps, q.takesByte) (hlen : ps.length = f.length) (hk : k < f.length) :
    ∃ u : State, Host.Core.run Sys2Proof.core (k + 1) s = .next u ∧ s.Sending f k u := by
  induction k with
  | zero => exact ⟨t, run_succ 0 h, h0⟩
  | succ k ih =>
    obtain ⟨u, hrun, hu⟩ := ih (by omega)
    obtain ⟨v, hstep, hv⟩ := hu.next hk (hu.takesByte hin hps (by omega))
    exact ⟨v, (run_add (k + 1) 1 hrun).trans (run_succ 0 hstep), hv⟩

end

/-- Settles O55: the frame's bytes are taken one an edge, and the edge of the last completes. -/
theorem sendPutsItsFrameOnTheWire : Obligations.SendPutsItsFrameOnTheWire := by
  unfold Obligations.SendPutsItsFrameOnTheWire
  intro s p ps rest d l m hs hc hl hin ho hlen hps
  have hsample : s.sample = p := State.sample_of_cons hin
  have hf : (codecBuild Config.params (s.payload l.toNat) s.seq).length = l.toNat + 5 := by simp [buildLength]
  have hrun (k : Nat) (hk : k < l.toNat + 5) : ∃ t : State, Host.Core.run Sys2Proof.core (k + 1) s = .next t ∧
      s.Sending (codecBuild Config.params (s.payload l.toNat) s.seq) k t :=
    State.Sending.run (step_of_send hs hc hl (hsample ▸ ho)) (.of_startFrame s hl) hin hps (hlen.trans hf.symm)
      (hf.symm ▸ hk)
  refine ⟨fun k h1 hk => ?_, ?_⟩
  · obtain ⟨j, rfl⟩ := Nat.exists_eq_succ_of_ne_zero (Nat.one_le_iff_ne_zero.mp h1)
    obtain ⟨t, ht, hsend⟩ := hrun j hk
    exact ⟨t, ht, hsend.state⟩
  · obtain ⟨t, ht, hsend⟩ := hrun (l.toNat + 4) (by omega)
    have hstep := step_of_txLast hsend.state (hsend.takesByte hin hps (by omega))
      (by rw [hsend.offset, hsend.txlen, hf])
    have hwire := hsend.wire_putByte (by omega)
    rw [List.take_of_length_le hf.le] at hwire
    refine ⟨_, (run_add (l.toNat + 5) 1 ht).trans (run_succ 0 hstep), ?_⟩
    simp [State.sendDone, bumpCounter_eq, nextSeq_eq, hsend.cntSent, hsend.seq, hsend.connected, hc, hsend.inputs, hin,
      ← hlen, ← hwire]

end Sys2Proof.Machine
end

section
/-! SUPPORT. The command decoder and encoder are inverse (R100 to R107, R112), and what an operation's meaning takes from
its word and from the port it travels on. -/

namespace Sys2Proof

/-- A command's word decodes to the command (R100 to R105). -/
theorem decodeCmd_of_encodeCmd {i : Instr} {w : CmdWord} (h : encodeCmd i = some w) : decodeCmd w = i := by
  cases i
  case regRead | regWrite | checksum | ckOk | build | validate | extract => cases h
  all_goals
    obtain rfl := Option.some.inj h
    simp [decodeCmd]

/-- A register operation's drive decodes to the operation (R112). -/
theorem decodeReg_of_encodeReg {i : Instr} {wr : Bool} {a : RegIndex} {d : Word32}
    (h : encodeReg i = some (wr, a, d)) : decodeReg wr a d = i := by
  cases i
  case regRead | regWrite => cases h; rfl
  all_goals cases h

/-- A word is the word of the command it decodes to (R105, R106). -/
theorem encodeCmd_decodeCmd (w : CmdWord) : encodeCmd (decodeCmd w) = some w := by
  have hw := packCmd_fields w
  unfold decodeCmd
  rcases cmdOp_cases w with h | h | h | h | h | h | h | h <;> rw [h] at hw ⊢ <;> exact congrArg some hw

/-- Settles O2: a packed word's fields are the operation's, and OP selects its row. -/
theorem decodeOfEncodeIsTheOperation : Obligations.DecodeOfEncodeIsTheOperation :=
  fun _ => ⟨fun _ => decodeCmd_of_encodeCmd, fun _ _ _ => decodeReg_of_encodeReg⟩

/-- Settles O3: the two codecs are inverse to each other. -/
theorem everyCommandWordHasOneCommand : Obligations.EveryCommandWordHasOneCommand :=
  fun w => ⟨encodeCmd_decodeCmd w, fun _ h => (decodeCmd_of_encodeCmd h).symm⟩

/-- Settles O1: each word is the worked command's encoding. -/
theorem workedCommandWordsDecode : Obligations.WorkedCommandWordsDecode := by
  unfold Obligations.WorkedCommandWordsDecode
  refine ⟨?_, ?_, ?_, ?_, ?_, ?_⟩ <;> exact decodeCmd_of_encodeCmd (by decide)

/-- A word with DBG flipped has the same OP, LEN and MAX (R102). -/
theorem cmd_fields_flipDbg (w : CmdWord) :
    cmdOp (w ^^^ 0x00008) = cmdOp w ∧ cmdLen (w ^^^ 0x00008) = cmdLen w ∧ cmdMax (w ^^^ 0x00008) = cmdMax w := by
  simp [cmdOp, cmdLen, cmdMax, BitVec.extractLsb'_xor]

end Sys2Proof

namespace Sys2Proof.Machine

/-- Settles O4: no meaning names a field its command does not read. -/
theorem unreadFieldsHaveNoEffect : Obligations.UnreadFieldsHaveNoEffect :=
  fun _ _ _ _ _ _ _ => ⟨rfl, rfl, rfl, rfl, rfl, rfl, rfl, rfl⟩

/-- DBG has no effect: words with the same OP, LEN and MAX have the same meaning (R107). -/
theorem exec_decodeCmd_congr {v w : CmdWord} (ho : cmdOp v = cmdOp w) (hl : cmdLen v = cmdLen w)
    (hm : cmdMax v = cmdMax w) (s : State) : exec (decodeCmd v) s = exec (decodeCmd w) s := by
  unfold decodeCmd
  rw [ho, hl, hm]
  rcases cmdOp_cases w with h | h | h | h | h | h | h | h <;> rw [h] <;> rfl

/-- The command port reaches an edge through the IDLE arm alone (R109, R170). -/
theorem clockEdge_congr_cmd {p : Ports} {s : State} {v : Bool} {w : CmdWord}
    (h : s.state = .idle → idleArm { p with cmdValid := v, cmdWord := w } s = idleArm p s) :
    clockEdge { p with cmdValid := v, cmdWord := w } s = clockEdge p s := by
  have harm : fsmArm { p with cmdValid := v, cmdWord := w } s = fsmArm p s := by
    unfold fsmArm
    cases hs : s.state
    case idle => exact h hs
    all_goals rfl
  unfold clockEdge
  rw [harm]
  rfl

/-- Settles O5: the IDLE arm runs the meaning of the word, which DBG does not reach. -/
theorem debugBitChangesNothing : Obligations.DebugBitChangesNothing := by
  unfold Obligations.DebugBitChangesNothing
  intro s p
  obtain ⟨ho, hl, hm⟩ := cmd_fields_flipDbg p.cmdWord
  refine ⟨clockEdge_congr_cmd (v := p.cmdValid) fun _ => ?_, rfl⟩
  simp only [idleArm, exec_decodeCmd_congr ho hl hm s]

/-- Settles O11: outside IDLE no arm reads the command port, and IDLE reads the word where a command is offered. -/
theorem commandPortIsReadAtAcceptanceOnly : Obligations.CommandPortIsReadAtAcceptanceOnly := by
  unfold Obligations.CommandPortIsReadAtAcceptanceOnly
  intro s p w
  refine ⟨fun v hs => clockEdge_congr_cmd fun h => absurd h hs, fun hv => ?_, rfl⟩
  exact clockEdge_congr_cmd (v := p.cmdValid) fun _ => by simp [idleArm, hv]

/-- Settles O10: every command's meaning is an effect offered to the FLC, which takes it in IDLE only. -/
theorem busyFlcTurnsCommandsAway : Obligations.BusyFlcTurnsCommandsAway := by
  unfold Obligations.BusyFlcTurnsCommandsAway
  intro i w s h hs
  rw [← decodeCmd_of_encodeCmd h]
  rcases exec_decodeCmd w s with ⟨he, -⟩ | ⟨he, -⟩ | ⟨he, -⟩ | ⟨he, -⟩ | ⟨he, -⟩ | ⟨he, -⟩ <;>
    rw [he, State.offer_busy _ hs]

/-- A register write touches DEADLINE and TXBUF alone (R73, R264). -/
theorem writeReg_frame (s : State) (a : Nat) (d : Word32) :
    writeReg s a d = { s with deadline := (writeReg s a d).deadline, txbuf := (writeReg s a d).txbuf } := by
  unfold writeReg
  by_cases h : a = 0x006
  · simp [h]
  · by_cases h2 : 0x100 ≤ a ∧ a ≤ 0x1F9 ∧ s.state = .idle <;> simp [h, h2]

/-- The register port's operation by itself: a write writes, and a read shows READ (R112, R262, R264). -/
theorem exec_decodeReg (s : State) (wr : Bool) (a : RegIndex) (d : Word32) :
    exec (decodeReg wr a d) s =
      .next (if wr then writeReg s a.toNat d else { s with rdata := readReg Config.params s a.toNat }) := by
  cases wr <;> rfl

/-- Settles O6: the edge of an accepted command is its meaning, joined by the register port. -/
theorem stepRunsTheOfferedCommand : Obligations.StepRunsTheOfferedCommand := by
  unfold Obligations.StepRunsTheOfferedCommand
  intro s t hs hr hv ht
  have harm : fsmArm s.sample s = .next t := by simp [fsmArm, hs, idleArm, hv, ht]
  obtain ⟨hd, hb, -, -⟩ := fsmArm_frame harm
  refine ⟨s.afterEdge t, step_of_arm hr harm, ?_, ?_⟩
  · unfold State.afterEdge State.joinWrite State.passEdge
    split <;> rfl
  · rw [exec_decodeReg, State.afterEdge_rdata, State.afterEdge_deadline s t hd, State.afterEdge_txbuf s t hb]
    cases s.sample.regWr
    · simp
    · simp only [if_true, true_and, ← writeReg_deadline, ← writeReg_txbuf, ← writeReg_frame]

/-- Settles O7: the sample listed first offers the word the number stands for. -/
theorem fetchedWordIsRunNext : Obligations.FetchedWordIsRunNext := by
  unfold Obligations.FetchedWordIsRunNext
  intro s nbits w i h
  have hsample : (s.withFetchWord nbits w).sample = Ports.offering (BitVec.ofNat 20 w) := State.sample_of_cons rfl
  rw [decodeTableWord] at h
  split at h
  · rw [hsample]
    exact ⟨rfl, rfl, rfl, Option.some.inj h⟩
  · cases h

/-- `rx_ready` as R111 lists it. -/
theorem State.rxReady_eq (s : State) : s.rxReady =
    decide ((s.state = .hunt ∨ s.state = .len ∨ s.state = .body) ∧ ¬ s.dl.toNat ≤ s.elapsed.toNat) := by
  rw [State.rxReady, State.deadlinePassed, ← decide_not]
  cases s.state <;> simp [Fsm.receiving]

/-- Settles O17: each output is defined as the rules list it, `rx_ready` by the states that wait for a byte. -/
theorem outputsAreTheListedFunctions : Obligations.OutputsAreTheListedFunctions :=
  fun s _ => ⟨rfl, rfl, rfl, s.rxReady_eq, rfl, rfl, rfl, rfl⟩

/-- Settles O42: the frame is BUILD's, read at each of its parts. -/
theorem buildLaysOutTheFrame : Obligations.BuildLaysOutTheFrame := by
  unfold Obligations.BuildLaysOutTheFrame
  intro p q s
  refine ⟨fun hp => ⟨codecBuild Config.params p q, if_pos hp, codecBuild_length _ p q, rfl, rfl, rfl, fun i hi => ?_,
    ⟨codecChecksum p, ?_, ?_⟩, ?_⟩, fun hp => if_neg (Nat.not_le.mpr hp)⟩
  · rw [codecBuild_getElem?]
    simp (disch := omega) only [if_neg, if_pos, Nat.add_sub_cancel_left]
  · rw [codecBuild_getElem?]
    simp (disch := omega) only [if_neg, if_true]
  · rw [codecChecksum_toNat, byteSum_eq_sum]
  · rw [codecBuild_getElem?, Config.params_endMarker]
    simp (disch := omega) only [if_neg, if_true]

end Sys2Proof.Machine
end

section
/-! SUPPORT. The codec functions (40_codec.md): what each gives when run by itself, the round trip of a built frame, and what
VALIDATE makes of a frame with one byte changed. -/

namespace Sys2Proof.Machine

/-! ### The checksum -/

/-- Settles O45: two bytes that complete one sum to a multiple of 256 are equal. -/
theorem checksumIsTheOnlyPassingByte : Obligations.ChecksumIsTheOnlyPassingByte := by
  unfold Obligations.ChecksumIsTheOnlyPassingByte
  intro p c
  rw [codecCkOk_iff, ← BitVec.toNat_inj, codecChecksum_toNat]
  have := c.isLt
  omega

/-- Settles O40: the byte shown is CHECKSUM's. -/
theorem checksumIsTheAdditiveComplement : Obligations.ChecksumIsTheAdditiveComplement := by
  unfold Obligations.ChecksumIsTheAdditiveComplement
  intro p s
  refine ⟨fun hp => ⟨codecChecksum p, if_pos hp, ?_⟩, fun hp => if_neg (Nat.not_le.mpr hp)⟩
  rw [codecChecksum_toNat, byteSum_eq_sum]

/-- Settles O41: the bit shown is CK_OK's. -/
theorem ckOkIsTheCongruence : Obligations.CkOkIsTheCongruence := by
  unfold Obligations.CkOkIsTheCongruence
  intro p c s
  rw [← byteSum_eq_sum]
  exact ⟨fun hp => if_pos hp, fun hp => if_neg (Nat.not_le.mpr hp)⟩

/-! ### VALIDATE and EXTRACT -/

/-- VALIDATE's reason, read byte by byte from the list itself (R136). -/
theorem validateReason_getD (P : Params) {f : List Byte} (h : 1 ≤ f.length) :
    validateReason P f = frameReason P (f.getD · 0) f.length :=
  validateReason_eq (fun i hi => by simp [hi]) h

/-- Settles O43: the verdict shown is VALIDATE's. -/
theorem validateMakesFourChecksInOrder : Obligations.ValidateMakesFourChecksInOrder := by
  unfold Obligations.ValidateMakesFourChecksInOrder
  intro f s
  refine ⟨fun h1 h255 => ?_, fun hout => if_neg (by omega)⟩
  rw [← validateReason_getD Config.params h1]
  exact if_pos ⟨h1, h255⟩

/-- The payload bytes EXTRACT takes lie from offset 3 on (R139). -/
theorem extractPayload_getElem? (f : List Byte) (m : Nat) {i : Nat} (hi : i < extractCount f m) :
    (extractPayload f m)[i]? = f[3 + i]? := by
  rw [extractPayload, List.getElem?_take_of_lt hi, List.getElem?_drop]

/-- Settles O44: EXTRACT's two conditions are its range and VALIDATE's verdict. -/
theorem extractTakesTheTruncatedPayload : Obligations.ExtractTakesTheTruncatedPayload := by
  unfold Obligations.ExtractTakesTheTruncatedPayload
  intro f z s
  have hok (h5 : 5 ≤ f.length) : (codecValidate Config.params f).1 = true ↔
      frameReason Config.params (f.getD · 0) f.length = .none := by
    rw [codecValidate_ok, validateReason_getD _ (by omega)]
  refine ⟨fun h255 hnone => ?_, fun h5 h255 hfail => ?_, fun hout => if_neg (by omega)⟩
  · have h5 : 5 ≤ f.length := (frameReason_none hnone).1
    have hlen : (extractPayload f z.toNat).length = min (f.length - 5) z.toNat := extractPayload_length f z.toNat h5
    refine ⟨extractPayload f z.toNat, ?_, hlen, fun i hi => extractPayload_getElem? f z.toNat (hi.trans_eq hlen)⟩
    exact (if_pos ⟨h5, h255⟩).trans (if_pos ((hok h5).mpr hnone))
  · exact (if_pos ⟨h5, h255⟩).trans (if_neg fun h => hfail ((hok h5).mp h))

/-! ### The round trip -/

/-- A maximum that the payload does not pass truncates nothing (R139). -/
theorem extractPayload_of_le {f : List Byte} {m : Nat} (h : f.length - 5 ≤ m) :
    extractPayload f m = payloadSpan f := by
  rw [extractPayload, extractCount, Nat.min_eq_left h, payloadSpan]

/-- Settles O46: a built frame's parts are the ones VALIDATE and EXTRACT look for. -/
theorem builtFrameValidatesAndExtracts : Obligations.BuiltFrameValidatesAndExtracts := by
  unfold Obligations.BuiltFrameValidatesAndExtracts
  intro P p q maxsz hp hmax
  have hlen : (codecBuild P p q).length - 5 = p.length := by simp [buildLength]
  refine ⟨codecBuild_length P p q, ?_, ?_⟩
  · rw [codecValidate, validateReason_build P p q hp]
    rfl
  · rw [codecExtract, extractPayload_of_le (hlen.trans_le hmax), payloadSpan_build, extractCount, hlen,
      Nat.min_eq_left hmax, extractSeq_build]

/-! ### A changed byte -/

/-- The checksum byte ends the span check (d) sums (R136). -/
theorem sumOver_span (g : Nat → Byte) {n : Nat} (hn : 5 ≤ n) :
    sumOver (n - 5) (fun i => g (3 + i)) + (g (n - 2)).toNat = sumOver (n - 4) (fun i => g (3 + i)) := by
  obtain ⟨k, rfl⟩ := Nat.exists_eq_add_of_le' hn
  rw [show k + 5 - 4 = k + 1 from rfl, sumOver_succ, Nat.add_comm 3 k]
  rfl

/-- One changed byte takes a sum out of its class modulo 256 (R143). -/
theorem sumOver_update_mod_ne {n j : Nat} {g g' : Nat → Byte} (hj : j < n) (hne : g' j ≠ g j)
    (h : ∀ i, i ≠ j → g' i = g i) : sumOver n g' % 256 ≠ sumOver n g % 256 := by
  have hsum := sumOver_update hj fun i _ hi => h i hi
  have hbyte : (g' j).toNat ≠ (g j).toNat := mt BitVec.eq_of_toNat_eq hne
  have := (g' j).isLt
  have := (g j).isLt
  omega

/-- What VALIDATE makes of a good frame with the byte at offset `j` changed: every offset but the sequence byte's is under
one of the four checks (R143). -/
theorem frameReason_update {P : Params} {g g' : Nat → Byte} {n j : Nat} (hgood : frameReason P g n = .none) (hj : j < n)
    (hne : g' j ≠ g j) (h : ∀ i, i ≠ j → g' i = g i) :
    frameReason P g' n =
      if j = 0 then .start else if j = n - 1 then .endMarker else if j = 1 then .length
      else if j = 2 then .none else .checksum := by
  obtain ⟨hn, hstart, hend, hlen, hsum⟩ := frameReason_none hgood
  rw [sumOver_span g hn] at hsum
  unfold frameReason
  rw [sumOver_span g' hn]
  by_cases j0 : j = 0
  · subst j0
    rw [if_pos (hstart ▸ hne), if_pos rfl]
  rw [if_neg (not_not.mpr ((h 0 (Ne.symm j0)).trans hstart)), if_neg j0]
  by_cases jn : j = n - 1
  · subst jn
    rw [if_pos (hend ▸ hne), if_pos rfl]
  rw [if_neg (not_not.mpr ((h _ (Ne.symm jn)).trans hend)), if_neg jn]
  by_cases j1 : j = 1
  · subst j1
    rw [if_pos (.inl (hlen ▸ mt BitVec.eq_of_toNat_eq hne)), if_pos rfl]
  rw [if_neg (by rw [h 1 (Ne.symm j1)]; omega), if_neg j1]
  by_cases j2 : j = 2
  · rw [sumOver_congr fun i _ => h (3 + i) (by omega), if_neg (not_not.mpr hsum), if_pos j2]
  · obtain ⟨k, rfl⟩ := Nat.exists_eq_add_of_le (show 3 ≤ j by omega)
    have hspan := sumOver_update_mod_ne (n := n - 4) (j := k) (g := fun i => g (3 + i)) (g' := fun i => g' (3 + i))
      (by omega) hne fun i hi => h (3 + i) (by omega)
    rw [if_pos (hsum ▸ hspan), if_neg j2]

/-- A byte with one bit flipped is another byte (R143). -/
theorem flipBit_ne (b : Byte) (k : Fin 8) : b ^^^ BitVec.twoPow 8 k.val ≠ b := by
  intro h
  have hbit := congrArg (·.getLsbD k.val) h
  simp [k.isLt] at hbit

/-- Settles O47: a flipped bit changes one byte. -/
theorem singleBitErrorIsCaughtOutsideTheSequenceByte : Obligations.SingleBitErrorIsCaughtOutsideTheSequenceByte := by
  unfold Obligations.SingleBitErrorIsCaughtOutsideTheSequenceByte
  intro P f j k b hvalid hb
  obtain ⟨hj, rfl⟩ := List.getElem?_eq_some_iff.mp hb
  have h1 : 1 ≤ f.length := Nat.one_le_of_lt hj
  have hgood : frameReason P (f.getD · 0) f.length = .none :=
    (validateReason_getD P h1).symm.trans (congrArg Prod.snd hvalid)
  rw [validateReason_getD P (by rwa [List.length_set]), List.length_set]
  refine frameReason_update hgood hj ?_ fun i hi => ?_
  · simpa [hj] using flipBit_ne f[j] k
  · simp [List.getElem?_set_ne (Ne.symm hi)]

/-! ### SEND's frame -/

/-- TXFRAME after a SEND's accept edge: the bytes BUILD gives, and past them what was there (R187). -/
theorem State.startFrame_txframeByte (P : Params) (s : State) {n : Nat} (hn : n ≤ 250) (i : Nat) :
    (s.startFrame P n).txframeByte i = (codecBuild P (s.payload n) s.seq)[i]?.getD (s.txframeByte i) := by
  have hsize : 0 + (codecBuild P (s.payload n) s.seq).length ≤ txframeSize := by
    rw [codecBuild_length, buildLength, State.payload_length, txframeSize]
    omega
  rw [State.txframeByte, State.startFrame, Memory.read?_writeFrom _ _ _ _ _ hsize]
  by_cases hi : i < (codecBuild P (s.payload n) s.seq).length
  · rw [if_pos ⟨Nat.zero_le i, by omega⟩, Nat.sub_zero, List.getElem?_eq_getElem hi, Option.getD_some, Option.getD_some]
  · rw [if_neg (by omega), List.getElem?_eq_none (Nat.le_of_not_lt hi)]
    rfl

/-- The sum of SEND's payload is over TXBUF's bytes (R185). -/
theorem State.byteSum_payload (s : State) (n : Nat) : byteSum (s.payload n) = sumOver n s.txbufByte :=
  byteSum_range n s.txbufByte

/-- A SEND accepted in IDLE that passes its two checks (R185 to R187). -/
theorem exec_send_of_connected {s : State} {d : Bool} {l m : Byte} (hs : s.state = .idle) (hc : s.connected = true)
    (hl : l.toNat ≤ 250) : exec (.send d l m) s = .next (s.startFrame Config.params l.toNat) := by
  simp [exec, execSend, byteOperand, sendAccept, hs, hc, Nat.not_lt.mpr hl]

/-- Settles O23: TXFRAME takes the frame BUILD makes of TXBUF and SEQ. -/
theorem sendBuildsTheFrameAndStartsTx : Obligations.SendBuildsTheFrameAndStartsTx := by
  unfold Obligations.SendBuildsTheFrameAndStartsTx
  intro d l m s hs hc hl
  have hpay : (s.payload l.toNat).length = l.toNat := s.payload_length _
  have hbyte (i : Nat) := s.startFrame_txframeByte Config.params hl i
  simp only [codecBuild_getElem?, hpay] at hbyte
  refine ⟨_, exec_send_of_connected hs hc hl, rfl, ?_, hbyte 0, hbyte 1, hbyte 2, fun i hi => ?_, ?_, ?_, fun i hi => ?_⟩
  · exact (toNat_ofNat_buildLength (hpay.trans_le hl)).trans (by rw [buildLength, hpay])
  · rw [hbyte]
    simp (disch := omega) only [if_neg, if_pos, Nat.add_sub_cancel_left, State.payload_getElem?, Option.getD_some]
  · rw [hbyte]
    simp (disch := omega) only [if_neg, if_true, Option.getD_some, codecChecksum_toNat, State.byteSum_payload]
  · rw [hbyte]
    simp (disch := omega) only [if_neg, if_true, Option.getD_some, Config.params_endMarker]
  · rw [hbyte]
    simp (disch := omega) only [if_neg, Option.getD_none]

end Sys2Proof.Machine
end

section
/-! SUPPORT. The session commands edge by edge (41_session.md): what a command leaves at its accept edge, what OPEN_WAIT,
CLOSE_WAIT and TX make of the channel's answer, and over all arms the FSM's transitions and the two wires. -/

namespace Sys2Proof.Machine

/-! ### The transitions and the wires -/

/-- Settles O12: each effect of an arm leaves the state its guard lists. -/
theorem transitionsAreTheListedOnes : Obligations.TransitionsAreTheListedOnes := by
  unfold Obligations.TransitionsAreTheListedOnes
  intro s t hr h
  obtain ⟨u, hu, rfl⟩ := ArmEffect.of_step hr h
  rw [State.afterEdge_state]
  cases hu
  case notConnected hs hv ho hc => rcases ho with ho | ho <;> simp [hs, hv, ho, hc]
  case illegal hs hv ho =>
    have hop (n : BitVec 3) (hn : n.toNat < 5) : cmdOp s.sample.cmdWord ≠ n := fun h => by rw [h] at ho; omega
    simp [hs, hv, hop]
  case timeOut hs hd => rcases hs with hs | hs | hs <;> simp [hs, hd]
  case rxError hs hd he => rcases hs with hs | hs | hs <;> simp [hs, he]
  case rxWait hs hd he hv => rcases hs with hs | hs | hs <;> simp [hs, Nat.not_le.mpr hd, he, hv]
  case lenLong hs hd he hv hb => simp [hs, Nat.not_le.mpr hd, he, hv, Nat.not_le.mpr hb]
  all_goals simp [*]

/-- A byte is consumed by the effects of a wait that is ready, offered one and shown no error, and by no other (R214,
R226). -/
theorem ArmEffect.rxWire_eq {p : Ports} {s u : State} (hu : ArmEffect p s u) :
    u.rxWire = if s.rxReady = true ∧ p.rxValid = true ∧ p.rxErr = false then s.rxWire ++ [p.rxData] else s.rxWire := by
  cases hu
  case huntSkip hs hd he hv _ | huntFound hs hd he hv _ =>
    exact (if_pos ⟨State.rxReady_of_wait (.inl hs) hd, hv, he⟩).symm
  case lenShort hs hd he hv _ | lenLong hs hd he hv _ =>
    exact (if_pos ⟨State.rxReady_of_wait (.inr (.inl hs)) hd, hv, he⟩).symm
  case bodyLast hs hd he hv _ | bodyNext hs hd he hv _ =>
    exact (if_pos ⟨State.rxReady_of_wait (.inr (.inr hs)) hd, hv, he⟩).symm
  case timeOut hs hd => simp [State.rxReady_eq, hd]
  all_goals simp [State.rxReady_eq, *]

/-- The wire takes the offered byte where TX is acknowledged and not refused, and at no other effect (R188). -/
theorem ArmEffect.txWire_eq {p : Ports} {s u : State} (hu : ArmEffect p s u) :
    u.txWire = if s.txValid = true ∧ p.txAck = true ∧ p.txFull = false then s.txWire ++ [s.txData] else s.txWire := by
  unfold State.txValid State.txData
  cases hu
  case timeOut hs _ | rxError hs _ _ | rxWait hs _ _ _ => rcases hs with hs | hs | hs <;> simp [hs]
  all_goals simp [*]

/-- Settles O35: one lemma per wire. -/
theorem wiresGrowExactlyAtTransfers : Obligations.WiresGrowExactlyAtTransfers := by
  unfold Obligations.WiresGrowExactlyAtTransfers
  intro s t hr h
  obtain ⟨u, hu, rfl⟩ := ArmEffect.of_step hr h
  rw [State.afterEdge_rxWire, State.afterEdge_txWire]
  exact ⟨hu.rxWire_eq, hu.txWire_eq⟩

/-! ### The edges of OPEN_WAIT, CLOSE_WAIT, TX and an IDLE without a command -/

/-- Settles O20: a wait, a session opened, a refusal. -/
theorem openWaitTakesTheChannelsAnswer : Obligations.OpenWaitTakesTheChannelsAnswer := by
  unfold Obligations.OpenWaitTakesTheChannelsAnswer
  intro s hs hr
  have harm : fsmArm s.sample s = .next (openWaitArm s.sample s) := by simp only [fsmArm, hs]
  rw [step_of_arm hr harm, openWaitArm]
  cases s.sample.chanDone
  · rfl
  · by_cases hc : s.sample.chanCode = 0 <;> simp only [State.completeAnswer, hc, if_true, if_false] <;> rfl

/-- Settles O21: a wait, or a session closed whatever the answer. -/
theorem closeWaitTakesTheChannelsAnswer : Obligations.CloseWaitTakesTheChannelsAnswer := by
  unfold Obligations.CloseWaitTakesTheChannelsAnswer
  intro s hs hr
  have harm : fsmArm s.sample s = .next (closeWaitArm s.sample s) := by simp only [fsmArm, hs]
  rw [step_of_arm hr harm, closeWaitArm]
  cases s.sample.chanDone
  · rfl
  · by_cases hc : s.sample.chanCode = 0 <;> simp only [State.completeAnswer, hc, if_true, if_false] <;> rfl

/-- Settles O24: a refusal, a wait, the last byte, an earlier one. -/
theorem txHandsOverOneByteAnEdge : Obligations.TxHandsOverOneByteAnEdge := by
  unfold Obligations.TxHandsOverOneByteAnEdge
  intro s hs hr
  split_ifs with hf ha hi
  · exact step_of_arm hr (by simp only [fsmArm, hs, txArm, hf, if_true]; rfl)
  · exact step_of_arm hr (by simp [fsmArm, hs, txArm, hf, ha, State.stay])
  · rw [step_of_txLast hs ⟨hr, by simpa using ha, by simpa using hf⟩ hi, ← bumpCounter_eq, ← nextSeq_eq]
    rfl
  · rw [step_of_txNext hs ⟨hr, by simpa using ha, by simpa using hf⟩ hi, ← ofNat_succ_byte]
    rfl

/-- Settles O58: the IDLE arm stays. -/
theorem idleEdgeWithoutACommandChangesNothing : Obligations.IdleEdgeWithoutACommandChangesNothing := by
  unfold Obligations.IdleEdgeWithoutACommandChangesNothing
  intro s hs hr hv
  exact step_of_arm hr (by simp [fsmArm, hs, idleArm, hv, State.stay])

/-! ### The accept edges -/

/-- A command that completes at its accept edge leaves STATE as it is (R171, R172). -/
theorem State.complete_of_idle {s : State} (hs : s.state = .idle) (k : RKind) (v : Word16) :
    s.complete k v = { s with result := v, rkind := k, done := true } := by
  rw [State.complete, ← hs]

/-- A command that completes in IDLE and keeps RESULT leaves STATE as it is (R171, R194). -/
theorem State.completeKeep_of_idle {s : State} (hs : s.state = .idle) (k : RKind) :
    s.completeKeep k = { s with rkind := k, done := true } := by
  rw [State.completeKeep, ← hs]

/-- A command that finishes in IDLE raises DONE alone (R171, R192). -/
theorem State.finish_of_idle {s : State} (hs : s.state = .idle) : s.finish = { s with done := true } := by
  rw [State.finish, ← hs]

/-- Settles O18: the effect offered is `goto .openWait`, and IDLE takes it. -/
theorem connectAsksTheChannelToOpen : Obligations.ConnectAsksTheChannelToOpen := by
  unfold Obligations.ConnectAsksTheChannelToOpen
  refine ⟨fun w h => by simp [decodeCmd, h], fun d l m s hs => ⟨?_, rfl⟩⟩
  exact congrArg Host.Outcome.next (State.offer_idle _ hs)

/-- Settles O19: the effect offered is `goto .closeWait`, and IDLE takes it. -/
theorem disconnectAsksTheChannelToClose : Obligations.DisconnectAsksTheChannelToClose := by
  unfold Obligations.DisconnectAsksTheChannelToClose
  refine ⟨fun w h => by simp [decodeCmd, h], fun d l m s hs => ⟨?_, rfl⟩⟩
  exact congrArg Host.Outcome.next (State.offer_idle _ hs)

/-- Settles O22: SEND's two checks, in their order. -/
theorem sendChecksConnectionThenSize : Obligations.SendChecksConnectionThenSize := by
  unfold Obligations.SendChecksConnectionThenSize
  intro d l m s hs
  have hexec : exec (.send d l m) s = .next (sendAccept Config.params l.toNat s) :=
    congrArg Host.Outcome.next (State.offer_idle _ hs)
  rw [hexec, sendAccept, State.complete_of_idle hs, State.complete_of_idle hs]
  refine ⟨fun hc => ?_, fun hc hl => ?_⟩
  · rw [if_pos hc]; rfl
  · rw [if_neg (by simp [hc]), if_pos (show Config.params.maxBlock < l.toNat from hl)]; rfl

/-- Settles O25: the effect offered is `finish()`, and IDLE takes it. -/
theorem ackOnlyRaisesDone : Obligations.AckOnlyRaisesDone := by
  unfold Obligations.AckOnlyRaisesDone
  refine ⟨fun w h => by simp [decodeCmd, h], fun d l m s hs => ?_⟩
  exact congrArg Host.Outcome.next ((State.offer_idle _ hs).trans (State.finish_of_idle hs))

/-- Settles O26: the effect each offers is `complete(ILLEGAL, -)`, and IDLE takes it. -/
theorem reservedOpcodesReportIllegal : Obligations.ReservedOpcodesReportIllegal := by
  unfold Obligations.ReservedOpcodesReportIllegal
  refine ⟨fun w => ⟨fun h => ?_, fun h => ?_, fun h => ?_⟩, fun d l m s hs => ?_⟩
  · simp [decodeCmd, h]
  · simp [decodeCmd, h]
  · simp [decodeCmd, h]
  · have heffect : s.offer (s.completeKeep .illegal) = { s with rkind := .illegal, done := true } :=
      (State.offer_idle _ hs).trans (State.completeKeep_of_idle hs _)
    exact ⟨congrArg Host.Outcome.next heffect, congrArg Host.Outcome.next heffect, congrArg Host.Outcome.next heffect⟩

end Sys2Proof.Machine
end

section
/-! SUPPORT. RECEIVE edge by edge (42_receive.md): its accept edge, the edges of a wait by their priorities, the byte HUNT
and LEN take, and what CHECK delivers of a good and of a bad candidate. -/

namespace Sys2Proof.Machine

/-! ### The accept edge -/

/-- RECEIVE accepted in IDLE is its accept edge (R210). -/
theorem exec_receive_of_idle {s : State} (hs : s.state = .idle) (d : Bool) (l m : Byte) :
    exec (.receive d l m) s = .next (receiveAccept m s) :=
  congrArg Host.Outcome.next (State.offer_idle _ hs)

/-- RECEIVE of a connected FLC starts the hunt (R211). -/
theorem receiveAccept_of_connected {s : State} (hc : s.connected = true) (m : Byte) :
    receiveAccept m s = s.startHunt m := by
  simp [receiveAccept, hc]

/-- Settles O27: RECEIVE's one check, then the start of the hunt. -/
theorem receiveTakesTheDeadlineAndHunts : Obligations.ReceiveTakesTheDeadlineAndHunts := by
  unfold Obligations.ReceiveTakesTheDeadlineAndHunts
  intro d l m s hs
  rw [exec_receive_of_idle hs]
  refine ⟨fun hc => ?_, fun hc => ?_⟩
  · rw [receiveAccept, if_pos hc, State.complete_of_idle hs]; rfl
  · rw [receiveAccept_of_connected hc]; rfl

/-! ### The edges of HUNT, LEN and BODY -/

/-- Once the deadline has elapsed, a wait times out whatever the port shows (R213). -/
theorem step_of_timeOut {s : State} (hs : s.state = .hunt ∨ s.state = .len ∨ s.state = .body)
    (hr : s.sample.rst = false) (hd : s.dl.toNat ≤ s.elapsed.toNat) : step s = .next (s.afterEdge s.timeOut) := by
  rw [step_of_arm hr (fsmArm_receiving hs), waitArm, if_pos (by simpa [State.deadlinePassed] using hd)]

/-- Before the deadline, a wait counts the tick and turns to the receive port (R212, R214). -/
theorem step_of_waiting {s : State} (hs : s.state = .hunt ∨ s.state = .len ∨ s.state = .body)
    (hr : s.sample.rst = false) (hd : s.elapsed.toNat < s.dl.toNat) :
    step s = .next (s.afterEdge (rxPortArm Config.params s.sample (s.countElapsed s.sample.tick))) := by
  rw [step_of_arm hr (fsmArm_receiving hs), waitArm, if_neg (by simpa [State.deadlinePassed] using hd)]

/-- Before the deadline, a wait that is offered nothing waits on (R214). -/
theorem step_of_rxWait {s : State} (hs : s.state = .hunt ∨ s.state = .len ∨ s.state = .body)
    (hr : s.sample.rst = false) (hd : s.elapsed.toNat < s.dl.toNat) (he : s.sample.rxErr = false)
    (hv : s.sample.rxValid = false) : step s = .next (s.afterEdge (s.countElapsed s.sample.tick).stay) := by
  rw [step_of_waiting hs hr hd, rxPortArm, if_neg (by simp [he]), if_neg (by simp [hv])]

/-- Settles O28: the wait's first test is the deadline's, and `rx_ready` is that test. -/
theorem timeoutEndsTheReceive : Obligations.TimeoutEndsTheReceive := by
  unfold Obligations.TimeoutEndsTheReceive
  intro s hs hr hd
  refine ⟨?_, by simp [State.rxReady_eq, hd]⟩
  rw [step_of_timeOut hs hr hd, ← bumpCounter_eq]
  rfl

/-- Settles O29: the receive port's test of `rx_err` comes before that of `rx_valid`. -/
theorem waitEdgeWithoutAByte : Obligations.WaitEdgeWithoutAByte := by
  unfold Obligations.WaitEdgeWithoutAByte
  intro s hs hr hd
  rw [← countTick_sample]
  refine ⟨State.rxReady_of_wait hs hd, fun he => ?_, step_of_rxWait hs hr hd⟩
  rw [step_of_waiting hs hr hd, rxPortArm, if_pos he]
  rfl

/-- The arm of a byte consumed in HUNT (R215). -/
theorem consumeByte_hunt {p : Ports} {s : State} (hs : s.state = .hunt) :
    consumeByte Config.params p.rxData ((s.countElapsed p.tick).takeByte p.rxData) =
      if p.rxData = Config.startMarker then (s.collect p 0).goto .len
      else ((s.countElapsed p.tick).takeByte p.rxData).stay := by
  simp only [consumeByte, State.takeByte_state, State.countElapsed_state, hs]
  rfl

/-- The arm of a byte consumed in LEN (R216). -/
theorem consumeByte_len {P : Params} {p : Ports} {s : State} (hs : s.state = .len) :
    consumeByte P p.rxData ((s.countElapsed p.tick).takeByte p.rxData) =
      ({ s.collect p 1 with rxlen := p.rxData } : State).goto (if p.rxData.toNat ≤ 2 then .check else .body) := by
  simp only [consumeByte, State.takeByte_state, State.countElapsed_state, hs]
  rfl

/-- Settles O30: HUNT's one test, of the byte consumed. -/
theorem huntScansForTheStartMarker : Obligations.HuntScansForTheStartMarker := by
  unfold Obligations.HuntScansForTheStartMarker
  intro s hs hr hd he hv
  rw [step_of_byteOffered (.inl hs) hr hd he hv, consumeByte_hunt hs, ← countTick_sample]
  refine ⟨fun hb => by rw [if_neg hb]; rfl, fun hb => ?_⟩
  rw [if_pos hb]
  refine ⟨_, rfl, ?_, fun i => ?_⟩
  · rw [State.afterEdge_framebuf]; rfl
  · rw [State.afterEdge_framebufByte, State.goto_framebufByte]
    exact State.framebufByte_storeCandidate _ (i := 0) _ (by decide) i

/-- Settles O31: LEN stores its byte at offset 1 and takes it as the length. -/
theorem lenTakesTheDeclaredLength : Obligations.LenTakesTheDeclaredLength := by
  unfold Obligations.LenTakesTheDeclaredLength
  intro s hs hr hd he hv
  rw [step_of_byteOffered (.inr (.inl hs)) hr hd he hv, consumeByte_len hs, ← countTick_sample]
  refine ⟨_, rfl, ?_, fun i => ?_⟩
  · rw [State.afterEdge_framebuf]; rfl
  · rw [State.afterEdge_framebufByte, State.goto_framebufByte]
    exact State.framebufByte_storeCandidate _ (i := 1) _ (by decide) i

/-! ### The edge of CHECK -/

/-- CHECK of a candidate that passes VALIDATE (R219, R220). -/
theorem step_of_good {s : State} (hs : s.state = .check) (hr : s.sample.rst = false)
    (hk : validateReason Config.params s.candidate = .none) : step s = .next (s.afterEdge s.goodFrame) :=
  step_of_arm hr (by simp only [fsmArm, hs, checkArm, codecValidate_ok, hk, if_true])

/-- CHECK of a candidate that fails VALIDATE (R219, R221). -/
theorem step_of_bad {s : State} (hs : s.state = .check) (hr : s.sample.rst = false)
    (hk : validateReason Config.params s.candidate ≠ .none) :
    step s = .next (s.afterEdge (s.badFrame Config.params (validateReason Config.params s.candidate))) :=
  step_of_arm hr (by simp only [fsmArm, hs, checkArm, codecValidate_ok, hk, if_false]; rfl)

/-- A byte of RXBUF after the bytes `vs` are written from offset 0: the new byte, and past them what was there (R220,
R221). -/
theorem State.rxbufByte_of_writeFrom {s u : State} {vs : List Byte} (hlen : vs.length ≤ 250)
    (hm : u.rxbuf = Memory.writeFrom rxbufSize s.rxbuf 0 vs) (he : u.epoch = s.epoch) (i : Nat) :
    u.rxbufByte i = vs[i]?.getD (s.rxbufByte i) := by
  have hsize : 0 + vs.length ≤ rxbufSize := by rwa [Nat.zero_add]
  unfold State.rxbufByte
  rw [hm, he, Memory.read?_writeFrom _ _ _ _ _ hsize]
  by_cases hi : i < vs.length <;> simp [hi]

/-- RXBUF after a good frame: the payload bytes EXTRACT keeps, and past them what was there (R220). -/
theorem State.goodFrame_rxbufByte {s : State} (h5 : 5 ≤ s.rxcount.toNat) (i : Nat) :
    s.goodFrame.rxbufByte i =
      if i < min (s.rxcount.toNat - 5) s.maxsz.toNat then s.candidate.getD (3 + i) 0 else s.rxbufByte i := by
  have hcount : extractCount s.candidate s.maxsz.toNat = min (s.rxcount.toNat - 5) s.maxsz.toNat := by
    rw [extractCount, State.candidate_length]
  have hlen : (extractPayload s.candidate s.maxsz.toNat).length = min (s.rxcount.toNat - 5) s.maxsz.toNat := by
    rw [extractPayload_length _ _ (by simpa using h5), hcount]
  have hfit : (extractPayload s.candidate s.maxsz.toNat).length ≤ 250 := by
    have := s.rxcount.isLt
    omega
  rw [State.rxbufByte_of_writeFrom (s := s) (u := s.goodFrame) hfit rfl rfl]
  split
  next hi =>
    have hin : 3 + i < s.candidate.length := by rw [State.candidate_length]; omega
    rw [extractPayload_getElem? _ _ (hcount ▸ hi), List.getD_eq_getElem?_getD, List.getElem?_eq_getElem hin,
      Option.getD_some, Option.getD_some]
  next hi => rw [List.getElem?_eq_none (by omega), Option.getD_none]

/-- Settles O33: a passing candidate has five bytes or more, so RXBUF takes its payload from offset 3. -/
theorem checkOfAGoodFrame : Obligations.CheckOfAGoodFrame := by
  unfold Obligations.CheckOfAGoodFrame
  intro s hs hr hk
  have h5 : 5 ≤ s.rxcount.toNat := (frameReason_none hk).1
  have hbyte {j : Nat} (hj : j < s.rxcount.toNat) : s.candidate.getD j 0 = s.framebufByte j := by
    rw [List.getD_eq_getElem?_getD, State.candidate_getElem?, if_pos hj, Option.getD_some]
  refine ⟨_, step_of_good hs hr ((validateReason_candidate _ (by omega)).trans hk), ?_, fun i => ?_⟩
  · rw [State.afterEdge_rxbuf, ← hbyte (by omega : 2 < _), ← bumpCounter_eq, ← State.candidate_length]
    rfl
  · rw [State.afterEdge_rxbufByte, State.goodFrame_rxbufByte h5]
    exact ite_congr rfl (fun hi => hbyte (by omega)) fun _ => rfl

/-- Settles O34: the sentinel has ten bytes, and no byte of the candidate is read but by VALIDATE. -/
theorem checkOfABadFrame : Obligations.CheckOfABadFrame := by
  unfold Obligations.CheckOfABadFrame
  intro s hs hr h1 hk
  rw [← validateReason_candidate _ h1] at hk ⊢
  have hbyte (i : Nat) := State.rxbufByte_of_writeFrom (s := s)
    (u := s.badFrame Config.params (validateReason Config.params s.candidate)) (by simp) rfl rfl i
  refine ⟨_, step_of_bad hs hr hk, ?_, fun i => ?_, fun i hi => ?_⟩
  · rw [State.afterEdge_rxbuf, ← bumpCounter_eq]
    rfl
  · rw [State.afterEdge_rxbufByte, hbyte]
    simp [Config.params]
  · rw [State.afterEdge_rxbufByte, hbyte, List.getElem?_eq_none (by simpa using hi), Option.getD_none]

end Sys2Proof.Machine
end

section
/-! SUPPORT. A whole RECEIVE against the channel's samples (R227, R333): every edge before CHECK, and every edge before the
timeout, is a wait, and waits compose. -/

namespace Sys2Proof.Machine

/-! ### Waits -/

/-- `n` edges lead from `t` to `u` through HUNT, LEN and BODY and consume the bytes `bs`: the request, the counters and
RXBUF stand, and ELAPSED counts no more than the edges (R212, R214, R226). -/
structure State.Waits (n : Nat) (bs : List Byte) (t u : State) : Prop where
  run : Host.Core.run Sys2Proof.core n t = .next u
  dl : u.dl = t.dl
  maxsz : u.maxsz = t.maxsz
  cntGood : u.cntGood = t.cntGood
  cntTimeout : u.cntTimeout = t.cntTimeout
  rxbufByte : ∀ i, u.rxbufByte i = t.rxbufByte i
  elapsed : u.elapsed.toNat ≤ t.elapsed.toNat + n
  wire : u.rxWire = t.rxWire ++ bs
  inputs : u.inputs = t.inputs.drop n

/-- No edge at all. -/
theorem State.Waits.refl (t : State) : State.Waits 0 [] t t where
  run := rfl
  dl := rfl
  maxsz := rfl
  cntGood := rfl
  cntTimeout := rfl
  rxbufByte _ := rfl
  elapsed := Nat.le_refl _
  wire := (List.append_nil _).symm
  inputs := rfl

/-- One wait after another. -/
theorem State.Waits.trans {a b : Nat} {as bs : List Byte} {t u v : State} (h : State.Waits a as t u)
    (h' : State.Waits b bs u v) : State.Waits (a + b) (as ++ bs) t v where
  run := (run_add a b h.run).trans h'.run
  dl := h'.dl.trans h.dl
  maxsz := h'.maxsz.trans h.maxsz
  cntGood := h'.cntGood.trans h.cntGood
  cntTimeout := h'.cntTimeout.trans h.cntTimeout
  rxbufByte i := (h'.rxbufByte i).trans (h.rxbufByte i)
  elapsed := by
    have := h.elapsed
    have := h'.elapsed
    omega
  wire := by rw [h'.wire, h.wire, List.append_assoc]
  inputs := by rw [h'.inputs, h.inputs, List.drop_drop]

/-- An edge is a wait where its arm counts the tick, consumes `bs` and else writes STATE, DONE and the candidate only. -/
theorem State.Waits.of_step {t u : State} {bs : List Byte} (hstep : step t = .next (t.afterEdge u))
    (hu : u = { t with
      elapsed := countTick t.elapsed t.sample.tick, rxWire := t.rxWire ++ bs, state := u.state, done := u.done
      framebuf := u.framebuf, rxcount := u.rxcount, rxlen := u.rxlen }) : State.Waits 1 bs t (t.afterEdge u) where
  run := run_succ 0 hstep
  dl := by rw [State.afterEdge_dl, hu]
  maxsz := by rw [State.afterEdge_maxsz, hu]
  cntGood := by rw [State.afterEdge_cntGood, hu]
  cntTimeout := by rw [State.afterEdge_cntTimeout, hu]
  rxbufByte i := (State.afterEdge_rxbufByte t u i).trans (congrArg (·.rxbufByte i) hu)
  elapsed := by
    rw [State.afterEdge_elapsed, hu]
    exact countTick_le _ _
  wire := by rw [State.afterEdge_rxWire, hu]
  inputs := List.drop_one.symm

/-! ### The first and the last edge -/

@[simp] theorem State.startHunt_state (s : State) (m : Byte) : (s.startHunt m).state = .hunt := rfl
@[simp] theorem State.startHunt_dl (s : State) (m : Byte) : (s.startHunt m).dl = s.deadline := rfl
@[simp] theorem State.startHunt_elapsed (s : State) (m : Byte) : (s.startHunt m).elapsed = 0 := rfl
@[simp] theorem State.startHunt_maxsz (s : State) (m : Byte) : (s.startHunt m).maxsz = m := rfl
@[simp] theorem State.startHunt_rxcount (s : State) (m : Byte) : (s.startHunt m).rxcount = 0 := rfl
@[simp] theorem State.startHunt_cntGood (s : State) (m : Byte) : (s.startHunt m).cntGood = s.cntGood := rfl
@[simp] theorem State.startHunt_cntTimeout (s : State) (m : Byte) : (s.startHunt m).cntTimeout = s.cntTimeout := rfl
@[simp] theorem State.startHunt_rxWire (s : State) (m : Byte) : (s.startHunt m).rxWire = s.rxWire := rfl
@[simp] theorem State.startHunt_rxbufByte (s : State) (m : Byte) (i : Nat) :
    (s.startHunt m).rxbufByte i = s.rxbufByte i := rfl

/-- The accept edge of a RECEIVE of a connected FLC (R210, R211). -/
theorem step_of_receive {s : State} {d : Bool} {l m : Byte} (hs : s.state = .idle) (hc : s.connected = true)
    (ho : s.sample.offersCmd (.receive d l m)) : step s = .next (s.afterEdge (s.startHunt m)) := by
  obtain ⟨hr, hv, hw⟩ := ho
  apply step_of_arm hr
  simp only [fsmArm, hs, idleArm, hv, if_true, hw, exec_receive_of_idle hs, receiveAccept_of_connected hc]

/-- A RECEIVE's edges: its accept edge, `n` waits, and the edge that ends it (R225). -/
theorem run_of_receive {n : Nat} {bs : List Byte} {s t u v : State} (haccept : step s = .next t)
    (hwait : State.Waits n bs t u) (hend : step u = .next v) : Host.Core.run Sys2Proof.core (n + 2) s = .next v :=
  (run_succ (n + 1) haccept).trans ((run_add n 1 hwait.run).trans (run_succ 0 hend))

/-! ### The silent channel -/

/-- Below the largest count a tick is one more (R212). -/
theorem countTick_tick {e : Word32} (h : e.toNat + 1 < 2 ^ 32) : (countTick e true).toNat = e.toNat + 1 := by
  rw [countTick, sat32, BitVec.toNat_ofNat, Bool.toNat_true]
  omega

/-- HUNT waits through a tick without a byte before its deadline (R212, R214). -/
theorem State.Waits.of_silentTick {t : State} (hq : t.sample.silentTick) (hs : t.state = .hunt)
    (hd : t.elapsed.toNat < t.dl.toNat) :
    ∃ u, State.Waits 1 [] t u ∧ u.state = .hunt ∧ u.elapsed.toNat = t.elapsed.toNat + 1 := by
  obtain ⟨hr, he, hv, ht⟩ := hq
  refine ⟨_, .of_step (step_of_rxWait (.inl hs) hr hd he hv) (by rw [List.append_nil]; rfl), ?_, ?_⟩
  · rw [State.afterEdge_state]
    exact hs
  · have := t.dl.isLt
    rw [State.afterEdge_elapsed, ht]
    exact countTick_tick (by omega)

/-- HUNT waits through the ticks of a silent channel up to its deadline, and counts each (R212, R214). -/
theorem State.Waits.of_silence {qs rest : List Ports} {t : State} (hin : t.inputs = qs ++ rest)
    (hq : ∀ q ∈ qs, q.silentTick) (hs : t.state = .hunt) (hd : t.elapsed.toNat + qs.length ≤ t.dl.toNat) :
    ∃ u, State.Waits qs.length [] t u ∧ u.state = .hunt ∧ u.elapsed.toNat = t.elapsed.toNat + qs.length := by
  induction qs generalizing t with
  | nil => exact ⟨t, .refl t, hs, rfl⟩
  | cons q qs ih =>
    rw [List.length_cons, Nat.add_comm qs.length] at hd ⊢
    obtain ⟨hq, hqs⟩ := List.forall_mem_cons.mp hq
    obtain rfl : t.sample = q := State.sample_of_cons hin
    obtain ⟨v, hwait, hvs, hve⟩ := State.Waits.of_silentTick hq hs (by omega)
    obtain ⟨u, hu, hus, hue⟩ := ih (by simp [hwait.inputs, hin]) hqs hvs (by rw [hwait.dl]; omega)
    exact ⟨u, hwait.trans hu, hus, by omega⟩

/-- Settles O57: the ticks up to the deadline are waits in HUNT, and the edge after them times out. -/
theorem receiveOnASilentChannelTimesOut : Obligations.ReceiveOnASilentChannelTimesOut := by
  unfold Obligations.ReceiveOnASilentChannelTimesOut
  intro s p pc ps rest d l m hs hc hin ho hlen hps hr
  have hsample : s.sample = p := State.sample_of_cons hin
  have haccept := step_of_receive hs hc (hsample ▸ ho)
  obtain ⟨u, hu, hus, hue⟩ := State.Waits.of_silence (t := s.afterEdge (s.startHunt m)) (qs := ps) (rest := pc :: rest)
    (by simp [hin]) hps (by simp) (by simp [hlen])
  have hdl : u.dl = s.deadline := by simp [hu.dl]
  have helapsed : u.elapsed = s.deadline := BitVec.eq_of_toNat_eq (by simp [hue, hlen])
  have hui : u.inputs = pc :: rest := by simp [hu.inputs, hin]
  have hend := step_of_timeOut (.inl hus) ((State.sample_of_cons hui).symm ▸ hr) (hdl.trans helapsed.symm ▸ le_rfl)
  refine ⟨u.afterEdge u.timeOut, hlen ▸ run_of_receive haccept hu hend, ?_⟩
  simp [State.timeOut, bumpCounter_eq, negResult, hu.cntTimeout, hu.wire, helapsed, hui]

end Sys2Proof.Machine
end

section
/-! SUPPORT. A RECEIVE of a good frame behind other bytes (R215 to R220, R333): HUNT waits through the other bytes, the
candidate collects the frame's, and CHECK delivers it. -/

namespace Sys2Proof.Machine

/-- The state that collects a frame of `n` bytes once `k` of them are collected (R215 to R217). -/
def collectState (n : Nat) : Nat → Fsm
  | 0 => .hunt
  | 1 => .len
  | k + 2 => if k + 2 = n then .check else .body

/-- BODY collects the bytes behind the length byte (R216, R217). -/
theorem collectState_of_lt {n k : Nat} (h2 : 2 ≤ k) (hlt : k < n) : collectState n k = .body := by
  obtain ⟨j, rfl⟩ := Nat.exists_eq_add_of_le' h2
  exact if_neg hlt.ne

/-- CHECK follows the frame's last byte (R217). -/
theorem collectState_self {n : Nat} (h2 : 2 ≤ n) : collectState n n = .check := by
  obtain ⟨j, rfl⟩ := Nat.exists_eq_add_of_le' h2
  exact if_pos rfl

/-- The candidate of a frame of `n` bytes so far: the bytes `c`, in the state that collects the next (R42, R215 to R217). -/
structure State.Collected (n : Nat) (c : List Byte) (t : State) : Prop where
  state : t.state = collectState n c.length
  candidate : t.candidate = c
  rxlen : 2 ≤ c.length → t.rxlen.toNat = n

/-- The candidate has as many bytes as RXCOUNT counts (R42, R219). -/
theorem State.Collected.rxcount {n : Nat} {c : List Byte} {t : State} (h : t.Collected n c) :
    t.rxcount.toNat = c.length := by
  rw [← h.candidate, State.candidate_length]

/-- A candidate not yet complete waits for a byte (R214). -/
theorem State.Collected.waiting {n : Nat} {c : List Byte} {t : State} (h : t.Collected n c) (hlt : c.length < n) :
    t.state = .hunt ∨ t.state = .len ∨ t.state = .body := by
  rw [h.state]
  match hc : c.length with
  | 0 => exact .inl rfl
  | 1 => exact .inr (.inl rfl)
  | k + 2 => exact .inr (.inr (collectState_of_lt (by omega) (by omega)))

/-- The candidate after a byte is collected at its end (R215 to R217). -/
theorem State.candidate_collect {t u : State} {b : Byte} {k : Nat} (hk : t.rxcount.toNat = k) (hlt : k < 255)
    (hf : u.framebuf = Memory.write framebufSize t.framebuf k b) (he : u.epoch = t.epoch)
    (hc : u.rxcount = BitVec.ofNat 8 (k + 1)) : u.candidate = t.candidate ++ [b] := by
  have hcount : u.rxcount.toNat = k + 1 := by
    rw [hc, BitVec.toNat_ofNat]
    omega
  have hbyte (j : Nat) : u.framebufByte j = if j = k then b else t.framebufByte j := by
    rw [← State.framebufByte_storeCandidate t b hlt j]
    simp only [State.framebufByte, hf, he, State.storeCandidate_framebuf, State.storeCandidate_epoch]
  rw [State.candidate, State.candidate, hcount, hk, List.range_succ, List.map_append, List.map_singleton, hbyte, if_pos rfl]
  congr 1
  refine List.map_congr_left fun j hj => ?_
  rw [hbyte, if_neg (List.mem_range.mp hj).ne]

section

variable {n : Nat} {b : Byte} {c : List Byte} {t u : State}

/-- An arm that stores a byte at the candidate's end and counts it leaves one byte more collected (R215 to R217). -/
theorem State.Collected.append {k : Nat} (h : t.Collected n c) (hk : c.length = k) (hlt : k < 255)
    (hs : u.state = collectState n (k + 1)) (hf : u.framebuf = Memory.write framebufSize t.framebuf k b)
    (he : u.epoch = t.epoch) (hc : u.rxcount = BitVec.ofNat 8 (k + 1)) (hl : 1 ≤ k → u.rxlen.toNat = n) :
    (t.afterEdge u).Collected n (c ++ [b]) where
  state := by rw [State.afterEdge_state, hs, List.length_append, hk, List.length_singleton]
  candidate := by
    rw [State.candidate_collect (h.rxcount.trans hk) hlt ((State.afterEdge_framebuf t u).trans hf)
      ((State.afterEdge_epoch t u).trans he) ((State.afterEdge_rxcount t u).trans hc), h.candidate]
  rxlen h2 := by
    rw [List.length_append, hk] at h2
    rw [State.afterEdge_rxlen]
    exact hl (Nat.le_of_succ_le_succ h2)

/-- The edge that collects the frame's next byte: the start marker in HUNT, the length in LEN, any byte in BODY (R215 to
R217). -/
theorem State.Collected.next (h : t.Collected n c) (hlt : c.length < n) (h3 : 3 ≤ n) (h255 : n ≤ 255)
    (h0 : c.length = 0 → b = Config.startMarker) (h1 : c.length = 1 → b.toNat = n) (hb : t.sample.offersByte b)
    (hd : t.elapsed.toNat < t.dl.toNat) : ∃ v, State.Waits 1 [b] t v ∧ v.Collected n (c ++ [b]) := by
  obtain ⟨hr, he, hv, rfl⟩ := hb
  have hstep := step_of_byteOffered (h.waiting hlt) hr hd he hv
  match hk : c.length with
  | 0 =>
    have hs : t.state = .hunt := h.state.trans (congrArg (collectState n) hk)
    rw [consumeByte_hunt hs, if_pos (h0 hk)] at hstep
    exact ⟨_, .of_step hstep rfl, h.append hk (by omega) rfl rfl rfl rfl nofun⟩
  | 1 =>
    have hs : t.state = .len := h.state.trans (congrArg (collectState n) hk)
    have hlong : ¬ t.sample.rxData.toNat ≤ 2 := by
      rw [h1 hk]
      omega
    rw [consumeByte_len hs, if_neg hlong] at hstep
    exact ⟨_, .of_step hstep rfl, h.append hk (by omega) (collectState_of_lt le_rfl h3).symm rfl rfl rfl fun _ => h1 hk⟩
  | k + 2 =>
    have hs : t.state = .body := by
      rw [h.state, hk]
      exact collectState_of_lt (by omega) (by omega)
    have hlen := h.rxlen (by omega)
    rw [consumeByte_body hs, h.rxcount, hk, hlen] at hstep
    exact ⟨_, .of_step hstep rfl, h.append hk (by omega) rfl rfl rfl rfl fun _ => hlen⟩

/-- The edge at which HUNT discards a byte (R215). -/
theorem State.Collected.skip (h : t.Collected n []) (hne : b ≠ Config.startMarker) (hb : t.sample.offersByte b)
    (hd : t.elapsed.toNat < t.dl.toNat) : ∃ v, State.Waits 1 [b] t v ∧ v.Collected n [] := by
  obtain ⟨hr, he, hv, rfl⟩ := hb
  have hstep := step_of_byteOffered (.inl h.state) hr hd he hv
  rw [consumeByte_hunt h.state, if_neg hne] at hstep
  refine ⟨_, .of_step hstep rfl, ⟨?_, ?_, nofun⟩⟩
  · rw [State.afterEdge_state]
    exact h.state
  · exact List.length_eq_zero_iff.mp (by simp [h.rxcount])

/-- HUNT waits through bytes that are no start marker (R215). -/
theorem State.Waits.of_noise {g : List Byte} {qs rest : List Ports} (hin : t.inputs = qs ++ rest)
    (hq : List.Forall₂ (fun b q => Ports.offersByte b q) g qs) (hg : ∀ b ∈ g, b ≠ Config.startMarker)
    (h : t.Collected n []) (hd : t.elapsed.toNat + g.length ≤ t.dl.toNat) :
    ∃ u, State.Waits g.length g t u ∧ u.Collected n [] := by
  induction hq generalizing t with
  | nil => exact ⟨t, .refl t, h⟩
  | @cons b q g qs hbq _ ih =>
    obtain ⟨hne, hg⟩ := List.forall_mem_cons.mp hg
    rw [List.length_cons, Nat.add_comm g.length] at hd ⊢
    obtain rfl : t.sample = q := State.sample_of_cons hin
    obtain ⟨v, hwait, hv⟩ := h.skip hne hbq (by omega)
    obtain ⟨u, hu, hc⟩ := ih (by simp [hwait.inputs, hin]) hg hv (by have := hwait.elapsed; rw [hwait.dl]; omega)
    exact ⟨u, hwait.trans hu, hc⟩

/-- The candidate collects the rest of a frame that begins with the start marker and its length (R215 to R217). -/
theorem State.Waits.of_frame {f bs : List Byte} {qs rest : List Ports} (hin : t.inputs = qs ++ rest)
    (hq : List.Forall₂ (fun b q => Ports.offersByte b q) bs qs) (hf : f = c ++ bs)
    (h3 : 3 ≤ f.length) (h255 : f.length ≤ 255) (h0 : f.getD 0 0 = Config.startMarker)
    (h1 : (f.getD 1 0).toNat = f.length) (h : t.Collected f.length c)
    (hd : t.elapsed.toNat + bs.length ≤ t.dl.toNat) :
    ∃ u, State.Waits bs.length bs t u ∧ u.Collected f.length f := by
  induction hq generalizing t c with
  | nil =>
    rw [List.append_nil] at hf
    exact ⟨t, .refl t, hf ▸ h⟩
  | @cons b q bs qs hbq _ ih =>
    rw [List.length_cons, Nat.add_comm bs.length] at hd ⊢
    obtain rfl : t.sample = q := State.sample_of_cons hin
    have hb : f.getD c.length 0 = b := by simp [hf]
    have hlt : c.length < f.length := by simp [hf]
    obtain ⟨v, hwait, hv⟩ := h.next hlt h3 h255 (fun hc => by rw [← hb, hc, h0]) (fun hc => by rw [← hb, hc, h1]) hbq
      (by omega)
    obtain ⟨u, hu, hc⟩ := ih (by simp [hwait.inputs, hin]) (by simp [hf]) hv
      (by have := hwait.elapsed; rw [hwait.dl]; omega)
    exact ⟨u, hwait.trans hu, hc⟩

end

/-- A frame that passes VALIDATE begins with the start marker and its length (R136). -/
theorem validateReason_none_head {P : Params} {f : List Byte} (h : validateReason P f = .none) :
    5 ≤ f.length ∧ f.getD 0 0 = P.startMarker ∧ (f.getD 1 0).toNat = f.length := by
  cases f with
  | nil => cases h
  | cons b f =>
    rw [validateReason_getD P (by simp)] at h
    obtain ⟨h5, hstart, -, hlen, -⟩ := frameReason_none h
    exact ⟨h5, hstart, hlen⟩

/-- Bytes that are no start marker and then a frame that passes VALIDATE are waits, and the frame is the candidate (R215 to
R217, R333). -/
theorem State.Waits.of_noise_frame {t : State} {g f : List Byte} {qs rest : List Ports} (hin : t.inputs = qs ++ rest)
    (hq : List.Forall₂ (fun b q => Ports.offersByte b q) (g ++ f) qs) (hg : ∀ b ∈ g, b ≠ Config.startMarker)
    (h255 : f.length ≤ 255) (hvalid : validateReason Config.params f = .none) (h : t.Collected f.length [])
    (hd : t.elapsed.toNat + (g.length + f.length) ≤ t.dl.toNat) :
    ∃ u, State.Waits (g.length + f.length) (g ++ f) t u ∧ u.Collected f.length f := by
  obtain ⟨h5, h0, h1⟩ := validateReason_none_head hvalid
  obtain ⟨gq, fq, rfl, hgq, hfq⟩ : ∃ gq fq, qs = gq ++ fq ∧ List.Forall₂ (fun b q => Ports.offersByte b q) g gq ∧
      List.Forall₂ (fun b q => Ports.offersByte b q) f fq :=
    ⟨qs.take g.length, qs.drop g.length, (List.take_append_drop _ _).symm,
      by simpa using List.forall₂_take g.length hq, by simpa using List.forall₂_drop g.length hq⟩
  rw [List.append_assoc] at hin
  obtain ⟨u, hu, huc⟩ := State.Waits.of_noise hin hgq hg h (by omega)
  obtain ⟨v, hv, hvc⟩ := State.Waits.of_frame (f := f) (c := [])
    (by rw [hu.inputs, hin, hgq.length_eq, List.drop_left]) hfq rfl (by omega) h255 h0 h1 huc
    (by have := hu.elapsed; rw [hu.dl]; omega)
  exact ⟨v, hu.trans hv, hvc⟩

/-- After its accept edge a RECEIVE has collected nothing (R211). -/
theorem State.Collected.of_startHunt (s : State) (n : Nat) (m : Byte) :
    (s.afterEdge (s.startHunt m)).Collected n [] where
  state := by simp [collectState]
  candidate := by simp [State.candidate]
  rxlen := nofun

/-- Settles O56: the other bytes and the frame's are waits, and CHECK finds the frame as its candidate. -/
theorem receiveReturnsTheFirstGoodFrame : Obligations.ReceiveReturnsTheFirstGoodFrame := by
  unfold Obligations.ReceiveReturnsTheFirstGoodFrame
  intro s p pc ps rest g f d l m hs hc hin ho hps hr hg h255 hvalid hd
  have hsample : s.sample = p := State.sample_of_cons hin
  have haccept := step_of_receive hs hc (hsample ▸ ho)
  obtain ⟨u, hu, huc⟩ := State.Waits.of_noise_frame (t := s.afterEdge (s.startHunt m)) (qs := ps) (rest := pc :: rest)
    (by simp [hin]) hps hg h255 hvalid (.of_startHunt s f.length m) (by simpa using hd)
  have h5 : 5 ≤ f.length := (validateReason_none_head hvalid).1
  have hui : u.inputs = pc :: rest := by simp [hu.inputs, hin, ← List.length_append, hps.length_eq]
  have hmaxsz : u.maxsz = m := by simp [hu.maxsz]
  have hend := step_of_good (huc.state.trans (collectState_self (by omega))) ((State.sample_of_cons hui).symm ▸ hr)
    (huc.candidate.symm ▸ hvalid)
  refine ⟨u.afterEdge u.goodFrame, run_of_receive haccept hu hend, ?_⟩
  simp only [State.afterEdge_rxbufByte, State.goodFrame_rxbufByte (huc.rxcount.symm ▸ h5), huc.rxcount, huc.candidate,
    hmaxsz, hu.rxbufByte, State.startHunt_rxbufByte]
  simp [State.goodFrame, extractCount, extractSeq, bumpCounter_eq, huc.candidate, hmaxsz, hu.cntGood, hu.wire, hui]

end Sys2Proof.Machine
end

section
/-! SUPPORT. The register port by itself (R260 to R264), and its writes at a command's accept edge (R265, R266, R320,
R322). -/

namespace Sys2Proof.Machine

/-! ### REG_READ -/

/-- A field of a word, read off the word as a number (R8). -/
theorem extractLsb'_eq_iff {n k : Nat} {w : BitVec n} {f : BitVec k} (lo : Nat) :
    w.extractLsb' lo k = f ↔ w.toNat / 2 ^ lo % 2 ^ k = f.toNat := by
  rw [← BitVec.toNat_inj, BitVec.extractLsb'_toNat, Nat.shiftRight_eq_div_pow]

/-- A bit of a word, read off the word as a number (R8). -/
theorem getLsbD_eq_iff {n : Nat} {w : BitVec n} {b : Bool} (i : Nat) :
    w.getLsbD i = b ↔ w.toNat / 2 ^ i % 2 = b.toNat := by
  rw [BitVec.getLsbD, ← Nat.toNat_testBit]
  cases b <;> simp

/-- The fields of STATUS (R261). -/
theorem State.statusWord_fields (s : State) :
    s.statusWord.getLsbD 0 = s.connected ∧ s.statusWord.getLsbD 1 = s.busy ∧ s.statusWord.getLsbD 2 = s.done ∧
      s.statusWord.extractLsb' 3 3 = s.state.code ∧ s.statusWord.extractLsb' 6 26 = 0 := by
  have hcode := s.state.code.isLt
  have hdone := s.done.toNat_lt
  have hbusy := s.busy.toNat_lt
  have hconn := s.connected.toNat_lt
  simp only [getLsbD_eq_iff, extractLsb'_eq_iff, State.statusWord_toNat, BitVec.ofNat_eq_ofNat, BitVec.toNat_zero]
  omega

/-- The fields of the RESULT register (R261). -/
theorem State.resultWord_fields (s : State) :
    s.resultWord.extractLsb' 0 16 = s.result ∧ s.resultWord.extractLsb' 16 3 = s.rkind.code ∧
      s.resultWord.extractLsb' 19 13 = 0 := by
  have hkind := s.rkind.code.isLt
  have hresult := s.result.isLt
  simp only [extractLsb'_eq_iff, State.resultWord_toNat, BitVec.ofNat_eq_ofNat, BitVec.toNat_zero]
  omega

/-- The fields of RXINFO (R261). -/
theorem State.rxinfoWord_fields (s : State) :
    s.rxinfoWord.extractLsb' 0 8 = s.rxSeq ∧ s.rxinfoWord.extractLsb' 8 3 = s.failReason.code ∧
      s.rxinfoWord.extractLsb' 11 21 = 0 := by
  have hreason := s.failReason.code.isLt
  have hseq := s.rxSeq.isLt
  simp only [extractLsb'_eq_iff, State.rxinfoWord_toNat, BitVec.ofNat_eq_ofNat, BitVec.toNat_zero]
  omega

/-- The fields of PARAMS (R261). -/
theorem paramsWord_fields :
    (paramsWord Config.params).extractLsb' 0 8 = Config.startMarker ∧
      (paramsWord Config.params).extractLsb' 8 8 = Config.endMarker ∧
      (paramsWord Config.params).extractLsb' 16 8 = 250 ∧ (paramsWord Config.params).extractLsb' 24 8 = 0 := by
  have hstart := Config.startMarker.isLt
  have hend := Config.endMarker.isLt
  simp only [extractLsb'_eq_iff, paramsWord_toNat, BitVec.ofNat_eq_ofNat, BitVec.toNat_ofNat]
  omega

/-- Settles O36: READ of the index, whose packed words are read field by field. -/
theorem regReadShowsTheRegisterMap : Obligations.RegReadShowsTheRegisterMap := by
  unfold Obligations.RegReadShowsTheRegisterMap
  intro a s
  refine ⟨readReg Config.params s a.toNat, rfl, ?status, ?_, ?_, ?_, ?_, ?_, ?_, ?result, ?rxinfo, ?_, ?params,
    fun i hi ha => ha ▸ readReg_txbuf _ s hi, fun i hi ha => ha ▸ readReg_rxbuf _ s hi, readReg_unmapped _ s⟩ <;> rintro rfl
  case status => exact s.statusWord_fields
  case result => exact s.resultWord_fields
  case rxinfo => exact s.rxinfoWord_fields
  case params => exact paramsWord_fields
  all_goals rfl

/-! ### REG_WRITE -/

/-- The write to a TXBUF index in IDLE (R264). -/
theorem writeReg_of_txbuf {s : State} {a : Nat} (d : Word32) (h : 0x100 ≤ a ∧ a ≤ 0x1F9 ∧ s.state = .idle) :
    writeReg s a d = { s with txbuf := Memory.write txbufSize s.txbuf (a - 0x100) (d.setWidth 8) } := by
  rw [writeReg, if_neg (by omega), if_pos h]

/-- The write to any other index, or to a TXBUF index while busy (R264). -/
theorem writeReg_of_unmapped {s : State} {a : Nat} (d : Word32) (h6 : a ≠ 0x006)
    (h : ¬ (0x100 ≤ a ∧ a ≤ 0x1F9 ∧ s.state = .idle)) : writeReg s a d = s := by
  rw [writeReg, if_neg h6, if_neg h]

/-- A byte of TXBUF after a write to one of its indices in IDLE (R264). -/
theorem writeReg_txbufByte {s : State} {a : Nat} (d : Word32) (h : 0x100 ≤ a ∧ a ≤ 0x1F9 ∧ s.state = .idle) (i : Nat) :
    (writeReg s a d).txbufByte i = if i = a - 0x100 then d.setWidth 8 else s.txbufByte i := by
  have hsize : a - 0x100 < txbufSize := by
    rw [txbufSize]
    omega
  rw [writeReg_of_txbuf d h, State.txbufByte, Memory.read?_write]
  simp only [hsize, and_true]
  split <;> rfl

/-- Settles O37: the three cases of the register write rule. -/
theorem regWriteReachesDeadlineAndTxbufOnly : Obligations.RegWriteReachesDeadlineAndTxbufOnly := by
  unfold Obligations.RegWriteReachesDeadlineAndTxbufOnly
  intro a v s
  have hexec : exec (.regWrite a v) s = .next (writeReg s a.toNat v) := rfl
  refine ⟨?_, fun h => ⟨_, hexec, ?_, writeReg_txbufByte v h⟩, fun h6 h => ?_⟩
  · rintro rfl
    rfl
  · rw [writeReg_of_txbuf v h]
  · rw [hexec, writeReg_of_unmapped v (fun h0 => h6 (BitVec.eq_of_toNat_eq h0)) h]

/-! ### Writes at an accept edge -/

/-- The payload of the frame a SEND puts in TXFRAME (R91, R187). -/
theorem State.startFrame_txframeByte_payload (P : Params) (s : State) {n j : Nat} (hn : n ≤ 250) (hj : j < n) :
    (s.startFrame P n).txframeByte (3 + j) = s.txbufByte j := by
  rw [State.startFrame_txframeByte P s hn, codecBuild_getElem?, State.payload_length]
  simp (disch := omega) only [if_neg, if_pos, Nat.add_sub_cancel_left, State.payload_getElem?, Option.getD_some]

/-- Settles O38: the frame is built of the state before the edge, and the register write then joins it. -/
theorem writeAtTheSendEdgeMissesTheFrame : Obligations.WriteAtTheSendEdgeMissesTheFrame := by
  unfold Obligations.WriteAtTheSendEdgeMissesTheFrame
  intro s d l m i hs hc hl ho hi hw ha
  have hstep := step_of_send hs hc hl ho
  obtain ⟨-, htxbuf, -⟩ := registerPortJoinsEveryArm _ _ ho.1 hstep
  refine ⟨_, hstep, State.afterEdge_state _ _, (htxbuf i).trans (if_pos ⟨hw, hs, hi, ha⟩), fun j hj => ?_⟩
  rw [State.afterEdge_txframeByte, State.startFrame_txframeByte_payload _ _ hl hj]

/-- Settles O39: DL is taken of the state before the edge, and the register write then joins it. -/
theorem writeAtTheReceiveEdgeMissesTheDeadline : Obligations.WriteAtTheReceiveEdgeMissesTheDeadline := by
  unfold Obligations.WriteAtTheReceiveEdgeMissesTheDeadline
  intro s d l m hs hc ho hw ha
  have hstep := step_of_receive hs hc ho
  obtain ⟨hdeadline, -⟩ := registerPortJoinsEveryArm _ _ ho.1 hstep
  exact ⟨_, hstep, State.afterEdge_state _ _, State.afterEdge_dl _ _, hdeadline.trans (if_pos ⟨hw, ha⟩)⟩

end Sys2Proof.Machine
end

section
/-! SUPPORT. The FLC never stops (R280). -/

namespace Sys2Proof.Machine

/-- Settles O9: a reset edge leaves the reset elements; at any other edge the arm of STATE leaves a next state, because
the one arm that calls `exec` runs a decoded command, and the refusals belong to the codec functions alone. -/
theorem everyEdgeLeavesANextState : Obligations.EveryEdgeLeavesANextState := by
  unfold Obligations.EveryEdgeLeavesANextState
  intro s
  cases hr : s.sample.rst
  case true => exact ⟨_, step_of_rst hr⟩
  case false =>
    obtain ⟨_, harm⟩ := fsmArm_next s.sample s
    exact ⟨_, step_of_arm hr harm⟩

end Sys2Proof.Machine
end

section
/-! SUPPORT. Reset (R310 to R313): the state it gives, the outputs that state shows, and the promises it keeps. -/

namespace Sys2Proof.Machine

/-- A buffer that lists no byte reads as its free values of this epoch (R310, I14; log 5). -/
theorem State.bufferBytes_of_nil {s : State} (htx : s.txbuf = []) (hrx : s.rxbuf = []) (hfr : s.txframe = [])
    (hcand : s.framebuf = []) (i : Nat) :
    s.txbufByte i = Config.freeTxbuf s.epoch i ∧ s.rxbufByte i = Config.freeRxbuf s.epoch i ∧
      s.txframeByte i = Config.freeTxframe s.epoch i ∧ s.framebufByte i = Config.freeFramebuf s.epoch i := by
  have hnil (v : Byte) : (Memory.read? [] i).getD v = v := rfl
  simp only [State.txbufByte, State.rxbufByte, State.txframeByte, State.framebufByte, htx, hrx, hfr, hcand, hnil, and_self]

/-- The outputs in IDLE: ready for a command, nothing offered to the channel and nothing asked of it (R110, R111). -/
theorem State.outputs_of_idle {s : State} (P : Params) (a : RegIndex) (hs : s.state = .idle) :
    s.outputs P a =
      { cmdReady := true, done := s.done, regRdata := readReg P s a.toNat, txValid := false, txData := 0x00
        rxReady := false, chanOpenReq := false, chanCloseReq := false } := by
  simp [State.outputs, State.cmdReady, State.txValid, State.txData, State.rxReady_eq, State.chanOpenReq,
    State.chanCloseReq, hs]

/-- In IDLE the promises about a running command are empty; those about the buffers and about an ended command remain. -/
theorem SafeState.of_idle {s : State} (hs : s.state = .idle) (hb : s.buffersCanonical) (hr : s.resultFitsKind)
    (hf : s.failReason ≠ .start) : SafeState s where
  buffersCanonical := hb
  txHolds := by simp [State.txHolds, hs]
  rxHolds := by simp [State.rxHolds, hs]
  busyConnected := by simp [State.busyConnected, hs]
  resultFitsKind := hr
  timeWithinDeadline := by simp [State.timeWithinDeadline, Fsm.receiving, hs]
  doneOnlyInIdle := fun _ => hs
  failReasonNotStart := hf

/-- Settles O15: a reset edge leaves the reset elements in a new epoch, with every buffer empty; the register port's write
is no part of it. -/
theorem resetEdgeGivesEveryElementItsResetValue : Obligations.ResetEdgeGivesEveryElementItsResetValue := by
  unfold Obligations.ResetEdgeGivesEveryElementItsResetValue
  intro s hr
  exact ⟨_, step_of_rst hr, rfl, State.bufferBytes_of_nil rfl rfl rfl rfl⟩

/-- Settles O14: the elements by their definition, the buffers because they are empty. -/
theorem resetStateHoldsTheGivenValues : Obligations.ResetStateHoldsTheGivenValues := by
  unfold Obligations.ResetStateHoldsTheGivenValues
  exact ⟨rfl, rfl, rfl, rfl, rfl, rfl, rfl, rfl, rfl, rfl, rfl, rfl, rfl, rfl, rfl, rfl, rfl, rfl, rfl, rfl,
    State.bufferBytes_of_nil rfl rfl rfl rfl⟩

/-- Settles O16: a reset edge leaves IDLE with DONE low, and the outputs are those of IDLE. -/
theorem outputsAfterAResetEdge : Obligations.OutputsAfterAResetEdge := by
  unfold Obligations.OutputsAfterAResetEdge
  intro s t a hr h
  rcases step_cases h with ⟨-, rfl⟩ | ⟨hr', -⟩
  · exact ⟨State.outputs_of_idle Config.params a rfl, rfl, rfl⟩
  · exact absurd (hr.symm.trans hr') (by decide)

/-- Settles O50: the reset state is in IDLE with its buffers empty, RKIND OK with RESULT 0 and FAIL_REASON NONE. -/
theorem resetKeepsEveryPromise : Obligations.ResetKeepsEveryPromise :=
  SafeState.of_idle rfl Memory.wf_reset rfl (by decide)

end Sys2Proof.Machine
end
